-- ==== Sys2Proof/Word.lean ====
section
/-! DEFINITION. The words of the block: the byte of VRAM, of the line buffer and of a control register, the 16-bit
name-table entry, colour-RAM entry and output pixel, the 32-bit packed pattern row (spec/10_state.md R10,
spec/20_memory.md R40 to R42). -/

namespace Sys2Proof

/-- A byte: a cell of VRAM, of the line buffer, a control register, an indexed pixel. -/
abbrev Byte := BitVec 8

/-- A 16-bit value: a name-table entry (R61), a colour-RAM entry (R68), a direct-colour pixel (R69). -/
abbrev Half := BitVec 16

/-- A 32-bit packed pattern row of four bitplanes (R41). -/
abbrev Pack := BitVec 32

/-- A 4-bit colour channel or a 4-bit pixel value. -/
abbrev Nibble := BitVec 4

end Sys2Proof
end

