-- ==== Sys2Proof/Config.lean ====
section
/-! DEFINITION. The implementation parameters of spec/00_scope.md section 3: the fixed sizes, the OPEN parameters (a record
that State carries, so that every statement about a state is a statement for every choice of them), and the one free value. -/

namespace Sys2Proof.Config

/-! The sizes that are types or bounds stand as numerals where they are used, so that arithmetic on them needs no unfolding:
`LB_SIZE` = 304 (R12, D26), `LB_MARGIN` = 8 (R12), `VIS_W` = 256 (D29), `VRAM_SIZE` = 0x4000 (D4), `CRAM_ENTRIES` = 32 (D30),
`LUT_ENTRIES` = 256 (R32), `NREGS` = 16 (D8), `NT_COLS` = 32 (R130), `MASK_W` = 8 (R161). -/

/-- `N_SPR_M4`: the most sprites a mode-4 line shows. -/
abbrev nSprM4 : Nat := 8

/-- `N_SPR_M2`: the most sprites a mode-2 line shows. -/
abbrev nSprM2 : Nat := 4

/-- `SAT_ENTRIES_M4`. -/
abbrev satEntriesM4 : Nat := 64

/-- `SAT_ENTRIES_M2`. -/
abbrev satEntriesM2 : Nat := 32

/-- `SENTINEL_Y`, a computed y: the stored byte is 0xD0 (R111, spec/90_conflicts.md C2). -/
abbrev sentinelY : Nat := 0xD1

/-- `MASK_INDEX`, the line-buffer byte of the column mask and the table entry forced to black (R161, R174). -/
abbrev maskIndex : Byte := 0xE0#8

/-- `CRAM_FORMAT`, OPEN (R68): how a colour-RAM entry is read. -/
inductive CramFormat where
  /-- `SMS6`: two bits a channel, red in bits 1:0. -/
  | sms6
  /-- `GG12`: four bits a channel, red in bits 3:0. -/
  | gg12
deriving DecidableEq, Repr

/-- When a frame in which a line was issued is over, so that PF.SELECT is legal again: the two windows the spec gives and does not
choose between (assumption 10). -/
inductive FrameEnd where
  /-- R215: PF.SELECT is legal "only when no LS.LINE_DRAW has been issued since the last LS.FRAME_START". -/
  | atNextFrameStart
  /-- R170: PF.SELECT is allowed from "the last LS.LINE_DRAW of a frame" on. -/
  | atLastLine
deriving DecidableEq, Repr

/-- The OPEN parameters of spec/00_scope.md section 3, and when a frame ends, fixed for one block. -/
structure Params where
  /-- `CRAM_FORMAT` (R68, D30). -/
  cramFormat : CramFormat
  /-- `TMS_PALETTE[0..15]`, each colour `{b, g, r}` with red in bits 3:0 (R176, D33). -/
  tmsPalette : Vector (BitVec 12) 16
  /-- `COFFSET`, reported in the geometry notification only (R150, D42). -/
  coffset    : Nat
  /-- `COLUMNS`, reported in the geometry notification only (R150, D42). -/
  columns    : Nat
  /-- Which of R170's and R215's windows PF.SELECT has (assumption 10). -/
  frameEnd   : FrameEnd
deriving DecidableEq, Repr

/-- The default palette of R176. -/
def defaultPalette : Vector (BitVec 12) 16 :=
  #v[0x000#12, 0x000#12, 0x0A0#12, 0x0F0#12, 0x500#12, 0xF00#12, 0x005#12, 0xFF0#12,
     0x00A#12, 0x00F#12, 0x055#12, 0x0FF#12, 0x050#12, 0xF0F#12, 0x555#12, 0xFFF#12]

/-- The defaults of spec/95_test_vectors.md's conventions: `CRAM_FORMAT = SMS6`, the palette of R176, `COFFSET = 0`,
`COLUMNS = 32`; and R215's window for PF.SELECT (assumption 10). -/
def defaultParams : Params :=
  { cramFormat := .sms6, tmsPalette := defaultPalette, coffset := 0, columns := 32, frameEnd := .atNextFrameStart }

/-- FREE VALUE (DESIGN CHOICE, assumption 7): the colour SS.M2.DRAW uses for a slot that SS.M4.SCAN filled. A slot holds a
colour "in mode 2 only" (R11), so the spec states none there; nothing can be proved of this constant. The argument is
State's `freeCount` plus the slot's number. -/
opaque unstatedColour : Nat → Nibble

end Sys2Proof.Config
end

