-- ==== Sys2Proof/Syntax.lean ====
section
/-! DEFINITION. The 24 operations of the block (spec/30_encoding.md R75), one constructor for each row of
spec/opcode_table.json. An operand keeps the width R75 gives it; operands arrive whole and are not scaled or
sign-extended (R70). -/

namespace Sys2Proof

/-- An operation with its operands, in the serial order of R75. -/
inductive Instr where
  /-- `TD.M4.NORM` (R93). -/
  | tdM4Norm (sx : Half) (pack : Pack) (pal : Byte)
  /-- `TD.M4.FLIP` (R94). -/
  | tdM4Flip (sx : Half) (pack : Pack) (pal : Byte)
  /-- `TD.M4.NORM_BG` (R95). -/
  | tdM4NormBg (sx : Half) (pack : Pack) (pal : Byte)
  /-- `TD.M4.FLIP_BG` (R96). -/
  | tdM4FlipBg (sx : Half) (pack : Pack) (pal : Byte)
  /-- `TD.M4.DBL` (R97). -/
  | tdM4Dbl (sx : Half) (pack : Pack) (pal : Byte)
  /-- `TD.M2.SPR` (R99). -/
  | tdM2Spr (sx : Half) (pack : Byte) (pal : Byte)
  /-- `TD.M2.BG` (R98). -/
  | tdM2Bg (sx : Half) (pack : Byte) (pal : Byte)
  /-- `TD.M2.SPR_DBL` (R100). -/
  | tdM2SprDbl (sx : Half) (pack : Byte) (pal : Byte)
  /-- `SS.M4.SCAN` (R111). -/
  | ssM4Scan (line : Byte)
  /-- `SS.M4.DRAW` (R113). -/
  | ssM4Draw
  /-- `SS.M2.SCAN` (R120). -/
  | ssM2Scan (line : Byte)
  /-- `SS.M2.DRAW` (R122). -/
  | ssM2Draw
  /-- `SC.M4.LOW` (R131). -/
  | scM4Low (row : Half) (dx : Half) (n : Byte) (col : Byte) (ty : Byte)
  /-- `SC.M4.HIGH` (R132). -/
  | scM4High (row : Half) (dx : Half) (n : Byte) (col : Byte) (ty : Byte)
  /-- `SC.M2.BG` (R134). -/
  | scM2Bg (line : Byte)
  /-- `LS.FRAME_START` (R150). -/
  | lsFrameStart
  /-- `LS.LINE_DRAW` (R153). -/
  | lsLineDraw (line : Byte)
  /-- `LS.BACKFILL` (R156). -/
  | lsBackfill
  /-- `LS.M4.DISPLAY` (R157). -/
  | lsM4Display (line : Byte)
  /-- `LS.M2.DISPLAY` (R160). -/
  | lsM2Display (line : Byte)
  /-- `LS.MASK_COL0` (R161). -/
  | lsMaskCol0
  /-- `PF.SELECT` (R170). -/
  | pfSelect (code : Byte)
  /-- `PF.REBUILD` (R171). -/
  | pfRebuild
  /-- `PF.FINALIZE` (R177). -/
  | pfFinalize
deriving DecidableEq, Repr

end Sys2Proof
end

