-- ==== Sys2Proof/Machine/State.lean ====
section
/-! DEFINITION. The state of the block (spec/10_state.md R10), as plain data, with what the model adds to it: the host's list
of coming actions, the host's hook answers, the calls the block has made to the host, the OPEN parameters, the place in the
calling order of R212 and R215, and the counter of the one free value. INVENTORY.md's '## State' lists every field. -/

namespace Sys2Proof.Machine

/-- VRAM as the cells that do not read as an unlisted address does, addresses strictly rising (assumption 2). -/
abbrev Memory := List Host.Cell

/-- The line buffer `LB[0..303]` (R12). -/
abbrev LineBuffer := Vector Byte 304

/-- The selected output form (R30, R77). -/
inductive Format where
  /-- `NONE`: no PF.SELECT yet (R35). -/
  | notSelected
  /-- `INDEXED8`: indexed pass-through. -/
  | indexed8
  /-- `RGB565`: direct colour. -/
  | rgb565
  /-- `BGR555`: direct colour. -/
  | bgr555
  /-- `BGR565`: direct colour. -/
  | bgr565
  /-- `INTERNAL`: no finalizer, the host reads `LB`. -/
  | internal
deriving DecidableEq, Repr

/-- A sprite slot (R11): the line-buffer offset, the 14-bit VRAM address of the pattern row, and the colour a mode-2 scan
stored; a mode-4 slot has none (D48). -/
structure Slot where
  x      : Int
  addr   : BitVec 14
  colour : Option Nibble
deriving DecidableEq, Repr

/-- The 4-tuple of the geometry notification (R150): offset, height, coffset, columns. -/
structure Geometry where
  offset  : Nat
  height  : Nat
  coffset : Nat
  columns : Nat
deriving DecidableEq, Repr

/-- One output row of 256 pixels (R37): 8 bits each in `INDEXED8`, 16 bits each in direct colour. -/
inductive Row where
  | indexed (pixels : Vector Byte 256)
  | direct (pixels : Vector Half 256)
deriving DecidableEq, Repr

/-- A call the block made to the host (R165): its only outputs beside `OUT`, `status` and `LB`. -/
inductive HostCall where
  /-- `geometry_change_notify(offset, height, coffset, columns)` (R150). -/
  | geometryChange (g : Geometry)
  /-- `scan_begin(line)` (R155). -/
  | scanBegin (line : Nat)
  /-- `scan_end(line)` (R155). -/
  | scanEnd (line : Nat)
deriving DecidableEq, Repr

/-- What the host does between operations: issue operations in serial form, or one of the directives of R79. -/
inductive HostAction where
  /-- A stretch of the serial command stream (R60, R75). -/
  | issue (bytes : List Byte)
  /-- `.reg n, v`. -/
  | reg (n : Fin 16) (v : Byte)
  /-- `.vram a, b0 b1 ...`: consecutive bytes. -/
  | vram (a : BitVec 14) (bytes : List Byte)
  /-- `.vram16 a, w0 w1 ...`: consecutive little-endian 16-bit values. -/
  | vram16 (a : BitVec 14) (halves : List Half)
  /-- `.vramfill a, n, b`: `n` bytes all `b`. -/
  | vramFill (a : BitVec 14) (n : Nat) (b : Byte)
  /-- `.cram i, v0 v1 ...`: consecutive entries. -/
  | cram (i : Fin 32) (values : List Half)
  /-- `.dirty`. -/
  | dirty
  /-- `.kill v`. -/
  | kill (v : BitVec 3)
  /-- `.status v`. -/
  | status (v : Byte)
  /-- `.hooks begin=r, end=r`. -/
  | hooks (scanBegin scanEnd : Nat)
deriving DecidableEq, Repr

/-- The MODEL's record of the host's calling order, which R170, R212 and R215 test and no register of the block holds (R13,
assumptions 9 and 10). -/
inductive CallOrder where
  /-- No LS.FRAME_START since reset or since the last PF.SELECT. -/
  | noFrame
  /-- LS.FRAME_START has run, and `issued` LS.LINE_DRAW since, the skipped ones too. -/
  | inFrame (issued : Nat)
deriving DecidableEq, Repr

/-- The state of the machine: R10's table first, in its order, then the model's own fields. -/
structure State where
  /-- `reg[0..15]` (R17). -/
  reg          : Vector Byte 16
  /-- `status` (R14). -/
  status       : Byte
  /-- `VRAM` (R10, R34). -/
  vram         : Memory
  /-- `CRAM` (R42, R68). -/
  cram         : Vector Half 32
  /-- `dirty` (R15). -/
  dirty        : Bool
  /-- `kill` (R29): bit 0 background, bit 1 sprites, bit 2 foreground. -/
  kill         : BitVec 3
  /-- `fmt` (R30). -/
  fmt          : Format
  /-- `mode_changed` (R16). -/
  modeChanged  : Bool
  /-- `lines` (R31). -/
  lines        : Nat
  /-- `screen_offset` (R31). -/
  screenOffset : Nat
  /-- `notified`: the 4-tuple last sent (R31, R150). -/
  notified     : Option Geometry
  /-- `skip_count` (R31). -/
  skipCount    : Nat
  /-- `out_row` (R31, R162). -/
  outRow       : Nat
  /-- `LB[0..303]` (R12). -/
  lb           : LineBuffer
  /-- `slot[0..7]` (R11). -/
  slot         : Vector Slot 8
  /-- `nslot`, 0..8 (R11). -/
  nslot        : Fin 9
  /-- `LUT[0..255]` (R32). -/
  lut          : Vector Half 256
  /-- `OUT` (R37): the rows written so far, row numbers strictly rising; a row that is not listed is unspecified. -/
  out          : List (Nat × Row)
  /-- `rebuild_count`, ghost (R36). -/
  rebuildCount : Nat
  /-- MODEL: the OPEN parameters of this block; no step changes them. -/
  params       : Config.Params
  /-- MODEL: what `scan_begin` answers until the host changes it (R155, R79). -/
  hookBegin    : Nat
  /-- MODEL: what `scan_end` answers until the host changes it (R155, R79). -/
  hookEnd      : Nat
  /-- MODEL: the calls made to the host so far, newest first. -/
  calls        : List HostCall
  /-- MODEL: the host's coming actions, next first (R13: host state). -/
  host         : List HostAction
  /-- MODEL: the calling order (R170, R212, R215). -/
  order        : CallOrder
  /-- MODEL: the counter that keeps two uses of the free value of assumption 7 apart. -/
  freeCount    : Nat
deriving DecidableEq, Repr

/-- No operation faults: "The block raises no synchronous exception, under any input" (R190). The type is empty, so that a
fault can be neither answered nor claimed. -/
inductive Fault
deriving DecidableEq, Repr

/-- Why the model gives a step no meaning (R192: refusals are "not events of the hardware"). Every one is safe: the model
stops where the spec defines no behaviour. -/
inductive Refusal where
  /-- An instruction with no meaning yet; no arm of exec answers it. Safe. -/
  | notModelled (mnemonic : String)
  /-- The step: a command byte outside R75 (R76). Safe. -/
  | reservedCommand (cmd : Byte)
  /-- The step: the serial stream ends inside an operation (assumption 4). Safe. -/
  | truncatedCommand
  /-- TD, SS, SC and LS operations: an operand outside the ranges of R70, or a line-buffer write outside `LB` (R3). Safe. -/
  | operandOutOfRange
  /-- LS.LINE_DRAW: `line >= lines` (R192, D41). Safe. -/
  | lineOutOfRange
  /-- LS.LINE_DRAW and PF.FINALIZE before any PF.SELECT (R192, R212, D43). Safe. -/
  | noFormatSelected
  /-- LS.LINE_DRAW with no LS.FRAME_START since reset or since the last PF.SELECT (R212). Safe. -/
  | frameNotStarted
  /-- PF.SELECT with a code from 5 up (R77). Safe. -/
  | reservedFormatCode
  /-- PF.SELECT in mid-frame: after a line of the frame and before its end (R215, R170, R192, assumption 10). Safe. -/
  | selectInMidFrame
  /-- PF.REBUILD while `fmt` is not a direct-colour format (R171). Safe. -/
  | rebuildWithoutDirectColour
deriving DecidableEq, Repr

/-- What an operation or a step answers. -/
abbrev Result := Host.Outcome State Fault Refusal

/-- The slot every `slot[k]` is at reset (assumption 1). -/
def Slot.empty : Slot := { x := 0, addr := 0#14, colour := none }

/-- The machine right after reset (R35, R210): `dirty`, `fmt`, `mode_changed`, `notified`, `skip_count` and `rebuild_count` as
R35 gives them; every other register at the value assumption 1 names. No host action is pending: a program is placed by the
host (assumption 3). -/
def State.reset : State :=
  { reg := Vector.replicate 16 0#8
    status := 0#8
    vram := []
    cram := Vector.replicate 32 0#16
    dirty := true
    kill := 0#3
    fmt := .notSelected
    modeChanged := true
    lines := 0
    screenOffset := 0
    notified := none
    skipCount := 0
    outRow := 0
    lb := Vector.replicate 304 0#8
    slot := Vector.replicate 8 Slot.empty
    nslot := 0
    lut := Vector.replicate 256 0#16
    out := []
    rebuildCount := 0
    params := Config.defaultParams
    hookBegin := 0
    hookEnd := 0
    calls := []
    host := []
    order := .noFrame
    freeCount := 0 }

end Sys2Proof.Machine
end

