-- ==== Sys2Proof/Machine/Ops.lean ====
section
/-! DEFINITION. The named operations over memory, the line buffer, the output rows and the host's actions, and the sequencing
of results. TAKING AN EXCEPTION has no operation here because the block has none: no exception (R190), no trap entry (R195),
no trap return (R196), no interrupt (R193), no privilege mode (R197). -/

namespace Sys2Proof.Machine

/-! ## Sequencing (R5, R49: one thing after the other, each seeing the effect of all earlier ones) -/

/-- Go on with `f` from the next state, or stop as `r` stops. -/
def andThen (r : Result) (f : State → Result) : Result :=
  match r with
  | .next s => f s
  | .fault e => .fault e
  | .refused e => .refused e

/-- `for a in l: f a`, in the order of the list. -/
def forEach {α : Type} (f : α → State → Result) : List α → State → Result
  | [], s => .next s
  | a :: l, s => andThen (f a s) (forEach f l)

/-- A vector given entry by entry. -/
def tabulate {α : Type} (n : Nat) (f : Nat → α) : Vector α n :=
  ⟨(List.ofFn (fun i : Fin n => f i)).toArray, by simp⟩

/-! ## VRAM (R2, R40, assumption 2) -/

/-- What an address of VRAM that nothing has written reads as (assumption 2). -/
def Memory.unlisted : Byte := 0#8

/-- The byte of a memory at an address. -/
def Memory.read : Memory → Nat → Byte
  | [], _ => Memory.unlisted
  | (k, b) :: m, a => if k = a then b else Memory.read m a

/-- The memory with a byte stored, in canonical form. -/
def Memory.write : Memory → Nat → Byte → Memory
  | [], a, v => if v = Memory.unlisted then [] else [(a, v)]
  | (k, b) :: m, a, v =>
    if k < a then (k, b) :: Memory.write m a v
    else if k = a then (if v = Memory.unlisted then m else (a, v) :: m)
    else if v = Memory.unlisted then (k, b) :: m
    else (a, v) :: (k, b) :: m

/-- Canonical from address `lo` up: addresses strictly rising and inside VRAM, no cell that reads as an unlisted one. -/
def Memory.wfFrom : Nat → Memory → Bool
  | _, [] => true
  | lo, (k, b) :: m =>
    decide (lo ≤ k) && decide (k < 0x4000) && decide (b ≠ Memory.unlisted) && Memory.wfFrom (k + 1) m

/-- The canonical form of VRAM. -/
def Memory.wf (m : Memory) : Bool := Memory.wfFrom 0 m

/-- `VRead8(a)`: the byte at `a & 0x3FFF` (R2, R48). -/
def vread8 (s : State) (a : Nat) : Byte := Memory.read s.vram (a % 0x4000)

/-- `VRead16(a)`, little-endian, each byte address masked separately (R2, R43). -/
def vread16 (s : State) (a : Nat) : Half := (vread8 s (a + 1) ++ vread8 s a : BitVec 16)

/-- `VRead32(a)`, little-endian, each byte address masked separately (R2, R41, R43). -/
def vread32 (s : State) (a : Nat) : Pack :=
  ((vread8 s (a + 3) ++ vread8 s (a + 2) : BitVec 16) ++ (vread8 s (a + 1) ++ vread8 s a : BitVec 16) : BitVec 32)

/-- Consecutive bytes stored from `a`, each address masked into VRAM (R48, R79). -/
def Memory.writeBytes : Memory → Nat → List Byte → Memory
  | m, _, [] => m
  | m, a, b :: bs => Memory.writeBytes (Memory.write m (a % 0x4000) b) (a + 1) bs

/-! ## The line buffer (R3, R12) -/

/-- `LBWrite(i, v)` (R3). Its bound `0 <= i < LB_SIZE` is tested where the write is issued (`drawPixels`'s callers). -/
def lbWrite (lb : LineBuffer) (i : Nat) (v : Byte) : LineBuffer := lb.setIfInBounds i v

/-- One pixel at offset `i`: written if there is one, else the byte stays (R90). -/
def drawPixel (lb : LineBuffer) (i : Nat) : Option Byte → LineBuffer
  | some v => lbWrite lb i v
  | none => lb

/-- `for x in 0..w-1`: pixel `x` at `sx + x` (R90). -/
def drawPixels (lb : LineBuffer) (sx w : Nat) (px : Nat → Option Byte) : LineBuffer :=
  (List.range w).foldl (fun lb x => drawPixel lb (sx + x) (px x)) lb

/-- The state with another line buffer. -/
def State.setLb (s : State) (lb : LineBuffer) : State := { s with lb := lb }

/-! ## Output rows (R37) -/

/-- `OUT[r]`, if the block has written it. -/
def readRow : List (Nat × Row) → Nat → Option Row
  | [], _ => none
  | (k, p) :: rows, r => if k = r then some p else readRow rows r

/-- `OUT[r] <- p`, the rows kept in rising order. -/
def writeRow : List (Nat × Row) → Nat → Row → List (Nat × Row)
  | [], r, p => [(r, p)]
  | (k, q) :: rows, r, p =>
    if k < r then (k, q) :: writeRow rows r p
    else if k = r then (r, p) :: rows
    else (r, p) :: (k, q) :: rows

/-- The canonical form of `OUT` from row `lo` up: row numbers strictly rising. -/
def rowsWfFrom : Nat → List (Nat × Row) → Bool
  | _, [] => true
  | lo, (k, _) :: rows => decide (lo ≤ k) && rowsWfFrom (k + 1) rows

/-- The canonical form of `OUT`. -/
def rowsWf (rows : List (Nat × Row)) : Bool := rowsWfFrom 0 rows

/-- The state with row `out_row` of `OUT` written whole (R37). -/
def State.putRow (s : State) (p : Row) : State := { s with out := writeRow s.out s.outRow p }

/-! ## Calls to the host and the host's actions (R50, R79, R155, R165) -/

/-- The state with a call to the host recorded. -/
def State.called (s : State) (c : HostCall) : State := { s with calls := c :: s.calls }

/-- The state with the host's coming actions replaced. -/
def State.setHost (s : State) (h : List HostAction) : State := { s with host := h }

/-- A hook's answer `r`: `r > 0` sets `skip_count <- r`, `0` is "no request" (R155). -/
def State.requestSkip (s : State) (r : Nat) : State := { s with skipCount := if 0 < r then r else s.skipCount }

/-- The calling order after one more LS.LINE_DRAW, drawn or skipped. -/
def CallOrder.lineIssued : CallOrder → CallOrder
  | .noFrame => .noFrame
  | .inFrame n => .inFrame (n + 1)

/-- Mid-frame: a line has been issued since the last LS.FRAME_START, and the frame is not over: until the next LS.FRAME_START by
R215, and by R170 until its last line, the call number `lines` of one call for each scanline (R214) (assumption 10). -/
def midFrame (s : State) : Bool :=
  match s.order with
  | .noFrame => false
  | .inFrame n => decide (0 < n ∧ (s.params.frameEnd = .atNextFrameStart ∨ n < s.lines))

/-- Consecutive colour-RAM entries stored from `i`, the index masked with 31 (R48, R79). -/
def writeCram : Vector Half 32 → Nat → List Half → Vector Half 32
  | c, _, [] => c
  | c, i, v :: vs => writeCram (c.setIfInBounds (i % 32) v) (i + 1) vs

/-- A 16-bit value as the host's `.vram16` stores it, low byte first (R79). -/
def halfBytes (h : Half) : List Byte := [h.extractLsb' 0 8, h.extractLsb' 8 8]

/-- The effect of a directive of R79; issuing operations is the step's business and changes nothing here. -/
def applyAction (a : HostAction) (s : State) : State :=
  match a with
  | .issue _ => s
  | .reg n v => { s with reg := s.reg.set n v }
  | .vram a bs => { s with vram := Memory.writeBytes s.vram a.toNat bs }
  | .vram16 a hs => { s with vram := Memory.writeBytes s.vram a.toNat (hs.flatMap halfBytes) }
  | .vramFill a n b => { s with vram := Memory.writeBytes s.vram a.toNat (List.replicate n b) }
  | .cram i vs => { s with cram := writeCram s.cram i vs }
  | .dirty => { s with dirty := true }
  | .kill v => { s with kill := v }
  | .status v => { s with status := v }
  | .hooks b e => { s with hookBegin := b, hookEnd := e }

/-- The rest of a serial stretch put back in front of the host's actions; nothing is put back when it is used up. -/
def pushStream (bs : List Byte) (h : List HostAction) : List HostAction :=
  match bs with
  | [] => h
  | b :: bs => .issue (b :: bs) :: h

end Sys2Proof.Machine
end

