-- ==== Sys2Proof/Machine/Operands.lean ====
section
/-! DEFINITION. How the block reads its registers and data formats: the control-register fields (spec/10_state.md R18 to
R27), the sprite geometry (R73), the tile code (R61), the two sprite tables (R63, R64), the pixel values of a pattern row (R91,
R92), the frame geometry (R151) and the scroll parameters (R158). Every address is a Nat; the reads mask it (R2). -/

namespace Sys2Proof.Machine

/-! ## Control-register fields -/

/-- `reg[0].VLOCK` (R18). -/
def vlock (s : State) : Bool := s.reg[0].getLsbD 7
/-- `reg[0].HLOCK` (R18). -/
def hlock (s : State) : Bool := s.reg[0].getLsbD 6
/-- `reg[0].MASK0` (R18). -/
def mask0 (s : State) : Bool := s.reg[0].getLsbD 5
/-- `reg[0].SSHIFT` (R18). -/
def sshift (s : State) : Bool := s.reg[0].getLsbD 3
/-- `reg[0].M4`: mode 4, else mode 2 (R18, R71). -/
def mode4 (s : State) : Bool := s.reg[0].getLsbD 2
/-- `reg[0].M2` (R18). -/
def bitM2 (s : State) : Bool := s.reg[0].getLsbD 1
/-- `reg[1].DISP` (R19). -/
def disp (s : State) : Bool := s.reg[1].getLsbD 6
/-- `reg[1].M1` (R19). -/
def bitM1 (s : State) : Bool := s.reg[1].getLsbD 4
/-- `reg[1].M3` (R19). -/
def bitM3 (s : State) : Bool := s.reg[1].getLsbD 3
/-- `reg[1].SIZE` (R19). -/
def sprSize (s : State) : Bool := s.reg[1].getLsbD 1
/-- `reg[1].ZOOM` (R19). -/
def zoom (s : State) : Bool := s.reg[1].getLsbD 0
/-- `kill.KILL_BG` (R29). -/
def killBg (s : State) : Bool := s.kill.getLsbD 0
/-- `kill.KILL_SPR` (R29). -/
def killSpr (s : State) : Bool := s.kill.getLsbD 1
/-- `kill.KILL_FG` (R29). -/
def killFg (s : State) : Bool := s.kill.getLsbD 2

/-- `frame_geometry(reg)` as `(lines, screen_offset)` (R151). -/
def frameGeometry (s : State) : Nat × Nat :=
  match mode4 s, bitM2 s, bitM1 s, bitM3 s with
  | true, true, true, false => (224, 8)
  | true, true, false, true => (240, 0)
  | _, _, _, _ => (192, 24)

/-- `tall_mode`, from the live registers: `frame_geometry` gives 224 or 240 lines (R72). -/
def tallMode (s : State) : Bool := decide ((frameGeometry s).1 ≠ 192)

/-- Mode-4 name-table base (R20). -/
def nameBase4 (s : State) : Nat :=
  if tallMode s then ((s.reg[2] &&& 0x0C#8).toNat <<< 10) + 0x700 else (s.reg[2] &&& 0x0E#8).toNat <<< 10
/-- Mode-2 name-table base (R20). -/
def nameBase2 (s : State) : Nat := (s.reg[2] &&& 0x0F#8).toNat <<< 10
/-- Mode-2 colour-table base (R21). -/
def colourBase2 (s : State) : Nat := (s.reg[3] &&& 0x80#8).toNat <<< 6
/-- Mode-2 pattern-table base (R22). -/
def patternBase2 (s : State) : Nat := (s.reg[4] &&& 0x04#8).toNat <<< 11
/-- Mode-4 sprite-attribute-table base (R23). -/
def satBase4 (s : State) : Nat := (s.reg[5] &&& 0x7E#8).toNat <<< 7
/-- Mode-2 sprite-attribute-table base (R23). -/
def satBase2 (s : State) : Nat := (s.reg[5] &&& 0x7F#8).toNat <<< 7
/-- Mode-4 sprite-pattern base (R24). -/
def sprBase4 (s : State) : Nat := (s.reg[6] &&& 0x04#8).toNat <<< 11
/-- Mode-2 sprite-pattern base (R24). -/
def sprBase2 (s : State) : Nat := (s.reg[6] &&& 0x07#8).toNat <<< 11
/-- The backdrop byte: `reg[7]` bits 3:0, with bit 4 set in mode 4 (R25, R156). -/
def backdrop (s : State) : Byte := (s.reg[7] &&& 0x0F#8) ||| (if mode4 s then 0x10#8 else 0x00#8)

/-! ## Sprite geometry and tables -/

/-- `zoom` as the shift count the address formulas use. -/
def zoomShift (s : State) : Nat := if zoom s then 1 else 0

/-- Sprite height, both modes: 8 or 16, doubled if zoomed (R73). -/
def sprHeight (s : State) : Nat := (if sprSize s then 16 else 8) * (if zoom s then 2 else 1)

/-- `name_mask`, mode 4 (R73). -/
def nameMask4 (s : State) : Byte := if sprSize s then 0xFE#8 else 0xFF#8
/-- `name_mask`, mode 2 (R73). -/
def nameMask2 (s : State) : Byte := if sprSize s then 0xFC#8 else 0xFF#8

/-- `(stored + 1) & 0xFF` (R111, R120). -/
def storedY (b : Byte) : Nat := (b.toNat + 1) % 256

/-- The computed y of mode-4 entry `i`, 0..255 (R63, R111). -/
def sprY4 (s : State) (i : Nat) : Nat := storedY (vread8 s (satBase4 s + i))

/-- The computed y of mode-2 entry `i` before R121, 0..255 (R64, R120). -/
def sprRawY2 (s : State) (i : Nat) : Nat := storedY (vread8 s (satBase2 s + 4 * i))

/-- Mode-2 vertical position: above 0xE0 it is negative (R121). -/
def signedY (y : Nat) : Int := if 0xE0 < y then (y : Int) - 256 else y

/-- An entry at `y` of height `h` covers `line`: `y <= line < y + h`, on mathematical integers (R110, D15). -/
def qualifies (y : Int) (h line : Nat) : Bool := decide (y ≤ (line : Int) ∧ (line : Int) < y + h)

/-- Mode-4 entry `i` ends the walk: the sentinel, suppressed in a tall mode (R111, D13). -/
def stop4 (s : State) (i : Nat) : Bool := decide (sprY4 s i = Config.sentinelY) && !tallMode s

/-- Mode-2 entry `i` ends the walk: tested before R121, never suppressed (R120). -/
def stop2 (s : State) (i : Nat) : Bool := decide (sprRawY2 s i = Config.sentinelY)

/-- Mode-4 entry `i` is on `line`. -/
def hit4 (s : State) (line i : Nat) : Bool := qualifies (sprY4 s i) (sprHeight s) line

/-- Mode-2 entry `i` is on `line`. -/
def hit2 (s : State) (line i : Nat) : Bool := qualifies (signedY (sprRawY2 s i)) (sprHeight s) line

/-- The slot of mode-4 entry `i` on `line` (R63, R111). -/
def slot4 (s : State) (line i : Nat) : Slot :=
  { x := (if sshift s then 0 else 8) + ((vread8 s (satBase4 s + 0x80 + 2 * i)).toNat : Int)
    addr := BitVec.ofNat 14
      (sprBase4 s + ((vread8 s (satBase4 s + 0x81 + 2 * i) &&& nameMask4 s).toNat <<< 5)
        + (((line - sprY4 s i) >>> zoomShift s) <<< 2))
    colour := none }

/-- The slot of mode-2 entry `i` on `line` (R64, R120). -/
def slot2 (s : State) (line i : Nat) : Slot :=
  { x := 8 + ((vread8 s (satBase2 s + 4 * i + 1)).toNat : Int)
      - (if (vread8 s (satBase2 s + 4 * i + 3)).getLsbD 7 then 32 else 0)
    addr := BitVec.ofNat 14
      (sprBase2 s + ((vread8 s (satBase2 s + 4 * i + 2) &&& nameMask2 s).toNat <<< 3)
        + (((line : Int) - signedY (sprRawY2 s i)).toNat >>> zoomShift s))
    colour := some ((vread8 s (satBase2 s + 4 * i + 3)).extractLsb' 0 4) }

/-- `slot[k]`; `k` is below `nslot` wherever it is read. -/
def slotAt (s : State) (k : Nat) : Slot := if h : k < 8 then s.slot[k] else Slot.empty

/-- The colour SS.M2.DRAW uses for `slot[k]`: the one the scan stored (D48), a free value in a slot that has none
(assumption 7). -/
def slotColour (s : State) (k : Nat) : Nibble :=
  match (slotAt s k).colour with
  | some c => c
  | none => Config.unstatedColour (s.freeCount + k)

/-- Some slot below `nslot` has no colour, so that SS.M2.DRAW uses the free value. -/
def hasUncoloured (s : State) : Bool := (List.range s.nslot.val).any (fun k => (slotAt s k).colour.isNone)

/-! ## Pattern rows -/

/-- `pix4(pack, p)`: bit `7-p` of byte k is bit k of the pixel (R91, R41). -/
def pix4 (pack : Pack) (p : Nat) : Nibble :=
  BitVec.setWidth 4 (BitVec.ofBool (pack.getLsbD (7 - p)))
    ||| BitVec.setWidth 4 (BitVec.ofBool (pack.getLsbD (15 - p))) <<< 1
    ||| BitVec.setWidth 4 (BitVec.ofBool (pack.getLsbD (23 - p))) <<< 2
    ||| BitVec.setWidth 4 (BitVec.ofBool (pack.getLsbD (31 - p))) <<< 3

/-- `pix1(pack, p) = pack[7 - p]` (R92). -/
def pix1 (pack : Byte) (p : Nat) : Bool := pack.getLsbD (7 - p)

/-- The row of four bitplanes with pixel values `v 0 .. v 7`: the inverse of `pix4` (R102). -/
def packOf (v : Nat → Nibble) : Pack :=
  BitVec.ofFnLE (fun i : Fin 32 => (v (7 - i.val % 8)).getLsbD (i.val / 8))

/-- `(pal | v) & 0xFF` (R93, R103). -/
def palByte (pal : Byte) (v : Nibble) : Byte := pal ||| v.setWidth 8

/-- The transparent-aware form of a mode-4 pixel: none where the value is zero (R93). -/
def overlay4 (pal : Byte) (v : Nibble) : Option Byte := if v = 0#4 then none else some (palByte pal v)

/-- The background form of a mode-4 pixel: always written (R95). -/
def opaque4 (pal : Byte) (v : Nibble) : Option Byte := some (palByte pal v)

/-- A mode-2 background pixel: the high nibble of the colour byte for a 1 bit, the low nibble for a 0 bit (R98, R65). -/
def background2 (pal : Byte) (bit : Bool) : Option Byte :=
  some ((if bit then pal.extractLsb' 4 4 else pal.extractLsb' 0 4).setWidth 8)

/-- A mode-2 sprite pixel: the colour in bits 3:0 where the bit is 1 and the colour is not zero (R99). -/
def sprite2 (pal : Byte) (bit : Bool) : Option Byte :=
  let v : Nibble := if bit then pal.extractLsb' 0 4 else 0#4
  if v = 0#4 then none else some (v.setWidth 8)

/-! ## Tile codes (R61, R133) -/

/-- `code.index`, bits 8:0. -/
def tileIndex (code : Half) : Nat := (code.extractLsb' 0 9).toNat
/-- `code.hflip`, bit 9. -/
def tileHflip (code : Half) : Bool := code.getLsbD 9
/-- `code.vflip`, bit 10. -/
def tileVflip (code : Half) : Bool := code.getLsbD 10
/-- `code.prio`, bit 12. -/
def tilePrio (code : Half) : Bool := code.getLsbD 12
/-- `pal = (code >> 7) & 0x10`: `palsel`, bit 11, as the palette bit (R61, R133). -/
def tilePal (code : Half) : Byte := ((code >>> 7) &&& 0x10#16).setWidth 8
/-- The row within the tile, flipped if the code says so: `(ty & 7) ^ (7 if vflip)` (R133). -/
def tileRow (code : Half) (ty : Nat) : Nat := (ty &&& 7) ^^^ (if tileVflip code then 7 else 0)
/-- The VRAM address of the tile's pattern row (R133). -/
def tileAddr (code : Half) (ty : Nat) : Nat := (tileIndex code <<< 5) + (tileRow code ty <<< 2)

/-- The tile code of name-table column `col + k` of the row at `row` (R130). -/
def columnCode (s : State) (row col k : Nat) : Half := vread16 s (row + 2 * ((col + k) &&& 31))

/-! ## Scroll parameters of a mode-4 line (R158) -/

/-- The values R158 computes. -/
structure Scroll where
  rowS  : Nat
  rowF  : Nat
  tyS   : Nat
  tyF   : Nat
  col0  : Nat
  dx    : Nat
  cells : Nat
deriving DecidableEq, Repr

/-- `vline`: the name-table line, wrapped at 256 in a tall mode and at 224 otherwise. -/
def vline (s : State) (line : Nat) : Nat :=
  if tallMode s then (s.reg[9].toNat + line) &&& 0xFF else (s.reg[9].toNat + line) % 224

/-- `hs`: `reg[8]`, or 0 on lines 0..15 under HLOCK. -/
def hscroll (s : State) (line : Nat) : Nat := if hlock s ∧ line < 16 then 0 else s.reg[8].toNat

/-- R158. -/
def scrollOf (s : State) (line : Nat) : Scroll :=
  let fine := hscroll s line &&& 7
  { rowS := nameBase4 s + (vline s line >>> 3) * 64
    rowF := nameBase4 s + (line >>> 3) * 64
    tyS := vline s line &&& 7
    tyF := line &&& 7
    col0 := ((256 - hscroll s line) >>> 3) &&& 31
    dx := if fine = 0 then 8 else fine
    cells := if fine = 0 then 32 else 33 }

end Sys2Proof.Machine
end

