-- ==== Sys2Proof/Machine/Flags.lean ====
section
/-! DEFINITION. The status flags (spec/10_state.md R14). The block only ORs into `status`; it never clears and never reads it.
Bits 6 and 5 and the index field 4:0 are written by the two scans alone; bit 7 is never touched (spec/60_exceptions.md R191,
R196). -/

namespace Sys2Proof.Machine

/-- `SOVR`, bit 6. -/
def sovr : Byte := 0x40#8

/-- `COLL`, bit 5. -/
def coll : Byte := 0x20#8

/-- What a mode-4 overflow ORs in (R114). -/
def overflow4 : Option Nat → Byte
  | none => 0#8
  | some _ => sovr

/-- What a mode-2 overflow at entry `i` ORs in: `SOVR` and the index in `OVR_IDX` (R120, D19). -/
def overflow2 : Option Nat → Byte
  | none => 0#8
  | some i => sovr ||| BitVec.ofNat 8 i

/-- What the collision test after a walk ORs in: `COLL` if more than one slot is filled (R115). -/
def collision (n : Nat) : Byte := if 1 < n then coll else 0#8

/-- The state with bits ORed into `status` (R14). -/
def State.orStatus (s : State) (v : Byte) : State := { s with status := s.status ||| v }

end Sys2Proof.Machine
end

