-- ==== Sys2Proof/Machine/PaletteFormatter.lean ====
section
/-! DEFINITION. PF, the palette lookup table and the RGB formatter (spec/44_palette_formatter.md). -/

namespace Sys2Proof.Machine

/-- `rep(c,2,4)` (spec/00_scope.md section 4; R172). -/
def rep24 (c : BitVec 2) : Nibble := c.setWidth 4 * 5#4

/-- `rep(c,4,5) = (c << 1) | (c >> 3)`. -/
def rep45 (c : Nibble) : BitVec 5 := (c.setWidth 5 <<< 1) ||| (c.setWidth 5 >>> 3)

/-- `rep(c,4,6) = (c << 2) | (c >> 2)`. -/
def rep46 (c : Nibble) : BitVec 6 := (c.setWidth 6 <<< 2) ||| (c.setWidth 6 >>> 2)

/-- A colour of three 4-bit channels. -/
structure Colour where
  r : Nibble
  g : Nibble
  b : Nibble
deriving DecidableEq, Repr

/-- A colour-RAM entry as a colour (R68, R172). -/
def cramColour (f : Config.CramFormat) (e : Half) : Colour :=
  match f with
  | .sms6 => { r := rep24 (e.extractLsb' 0 2), g := rep24 (e.extractLsb' 2 2), b := rep24 (e.extractLsb' 4 2) }
  | .gg12 => { r := e.extractLsb' 0 4, g := e.extractLsb' 4 4, b := e.extractLsb' 8 4 }

/-- An entry `{b, g, r}` of `TMS_PALETTE` as a colour (R172, R176). -/
def tmsColour (e : BitVec 12) : Colour :=
  { r := e.extractLsb' 0 4, g := e.extractLsb' 4 4, b := e.extractLsb' 8 4 }

/-- The source colour of table index `i`: colour RAM masked with 31 in mode 4, the fixed palette masked with 15 in mode 2
(R172, R175). -/
def sourceColour (s : State) (i : Nat) : Colour :=
  if mode4 s then cramColour s.params.cramFormat (s.cram[i % 32]'(Nat.mod_lt _ (by decide)))
  else tmsColour (s.params.tmsPalette[i % 16]'(Nat.mod_lt _ (by decide)))

/-- `layout(fmt, r, g, b)` (R173, R69), for the three direct-colour formats. -/
def layout : Format → Option (Colour → Half)
  | .rgb565 => some (fun c => rep45 c.r ++ rep46 c.g ++ rep45 c.b)
  | .bgr555 => some (fun c => 0#1 ++ rep45 c.b ++ rep45 c.g ++ rep45 c.r)
  | .bgr565 => some (fun c => rep45 c.b ++ rep46 c.g ++ rep45 c.r)
  | .notSelected => none
  | .indexed8 => none
  | .internal => none

/-- The rebuilt table for a layout: every entry from its source colour, entry 0xE0 forced to 0 (R171, R174). -/
def rebuiltLut (s : State) (pixel : Colour → Half) : Vector Half 256 :=
  tabulate 256 (fun i => if i = Config.maskIndex.toNat then 0#16 else pixel (sourceColour s i))

/-- The effect of PF.REBUILD (R171). -/
def rebuild (s : State) : Result :=
  match layout s.fmt with
  | none => .refused .rebuildWithoutDirectColour
  | some pixel =>
    .next { s with lut := rebuiltLut s pixel, dirty := false, rebuildCount := s.rebuildCount + 1 }

/-- The byte of the visible window at screen pixel `x` (R12). -/
def visible (s : State) (x : Nat) : Byte := if h : 8 + x < 304 then s.lb[8 + x] else 0#8

/-- The visible window as a row of indices (R177). -/
def indexedRow (s : State) : Row := .indexed (tabulate 256 (visible s))

/-- The visible window as a row of direct-colour pixels (R177). -/
def directRow (s : State) : Row :=
  .direct (tabulate 256 (fun x => s.lut[(visible s x).toNat]'(visible s x).isLt))

/-- Rebuild the table if it is dirty (R177). -/
def rebuildIfDirty (s : State) : Result := if s.dirty then rebuild s else .next s

/-- A line in a direct-colour format: the lazy rebuild, then the conversion (R177). -/
def finalizeDirect (s : State) : Result := andThen (rebuildIfDirty s) (fun s => .next (s.putRow (directRow s)))

/-- The effect of PF.FINALIZE (R177). -/
def finalize (s : State) : Result :=
  match s.fmt with
  | .notSelected => .refused .noFormatSelected
  | .indexed8 => .next (s.putRow (indexedRow s))
  | .rgb565 => finalizeDirect s
  | .bgr555 => finalizeDirect s
  | .bgr565 => finalizeDirect s
  | .internal => .next s

/-- The format a code names; the codes from 5 up are reserved (R77). -/
def formatOf (code : Nat) : Option Format :=
  match code with
  | 0 => some .indexed8
  | 1 => some .rgb565
  | 2 => some .bgr555
  | 3 => some .bgr565
  | 4 => some .internal
  | _ => none

/-- The effect of PF.SELECT (R170): refused in mid-frame (R170, R215, assumption 10); an LS.FRAME_START is owed after it (R212). -/
def select (code : Nat) (s : State) : Result :=
  match formatOf code with
  | none => .refused .reservedFormatCode
  | some f =>
    if midFrame s then .refused .selectInMidFrame
    else .next { s with fmt := f, modeChanged := true, order := .noFrame }

/-! ## Meanings -/

/-- `PF.SELECT` (R170). -/
def execPfSelect (code : Byte) (s : State) : Result := select code.toNat s

/-- `PF.REBUILD` (R171). -/
def execPfRebuild (s : State) : Result := rebuild s

/-- `PF.FINALIZE` (R177). -/
def execPfFinalize (s : State) : Result := finalize s

end Sys2Proof.Machine
end

