-- ==== Sys2Proof/Machine/TileDecoder.lean ====
section
/-! DEFINITION. TD, the tile decoder (spec/40_tile_decoder.md). Every operation writes pixels at `LB[sx ..]` and does nothing
else (R90); `tdDraw` is that effect once, and refuses where the caller's bound on `sx` fails (R70, R3). -/

namespace Sys2Proof.Machine

/-- Write `w` pixels at `LB[sx ..]`: `px x` is what pixel `x` writes, if it writes (R90). -/
def tdDraw (sx : Int) (w : Nat) (px : Nat → Option Byte) (s : State) : Result :=
  if 0 ≤ sx ∧ sx + w ≤ 304 then .next (s.setLb (drawPixels s.lb sx.toNat w px))
  else .refused .operandOutOfRange

/-- R93, at any integer offset. -/
def tdM4Norm (sx : Int) (pack : Pack) (pal : Byte) (s : State) : Result :=
  tdDraw sx 8 (fun x => overlay4 pal (pix4 pack x)) s

/-- R94, at any integer offset. -/
def tdM4Flip (sx : Int) (pack : Pack) (pal : Byte) (s : State) : Result :=
  tdDraw sx 8 (fun x => overlay4 pal (pix4 pack (7 - x))) s

/-- R95, at any integer offset. -/
def tdM4NormBg (sx : Int) (pack : Pack) (pal : Byte) (s : State) : Result :=
  tdDraw sx 8 (fun x => opaque4 pal (pix4 pack x)) s

/-- R96, at any integer offset. -/
def tdM4FlipBg (sx : Int) (pack : Pack) (pal : Byte) (s : State) : Result :=
  tdDraw sx 8 (fun x => opaque4 pal (pix4 pack (7 - x))) s

/-- R97, at any integer offset. -/
def tdM4Dbl (sx : Int) (pack : Pack) (pal : Byte) (s : State) : Result :=
  tdDraw sx 16 (fun x => overlay4 pal (pix4 pack (x >>> 1))) s

/-- R98, at any integer offset. -/
def tdM2Bg (sx : Int) (pack : Byte) (pal : Byte) (s : State) : Result :=
  tdDraw sx 8 (fun x => background2 pal (pix1 pack x)) s

/-- R99, at any integer offset. -/
def tdM2Spr (sx : Int) (pack : Byte) (pal : Byte) (s : State) : Result :=
  tdDraw sx 8 (fun x => sprite2 pal (pix1 pack x)) s

/-- R100, at any integer offset. -/
def tdM2SprDbl (sx : Int) (pack : Byte) (pal : Byte) (s : State) : Result :=
  tdDraw sx 16 (fun x => sprite2 pal (pix1 pack (x >>> 1))) s

/-! ## Meanings -/

/-- `TD.M4.NORM` (R93). -/
def execTdM4Norm (sx : Half) (pack : Pack) (pal : Byte) (s : State) : Result := tdM4Norm sx.toNat pack pal s

/-- `TD.M4.FLIP` (R94). -/
def execTdM4Flip (sx : Half) (pack : Pack) (pal : Byte) (s : State) : Result := tdM4Flip sx.toNat pack pal s

/-- `TD.M4.NORM_BG` (R95). -/
def execTdM4NormBg (sx : Half) (pack : Pack) (pal : Byte) (s : State) : Result := tdM4NormBg sx.toNat pack pal s

/-- `TD.M4.FLIP_BG` (R96). -/
def execTdM4FlipBg (sx : Half) (pack : Pack) (pal : Byte) (s : State) : Result := tdM4FlipBg sx.toNat pack pal s

/-- `TD.M4.DBL` (R97). -/
def execTdM4Dbl (sx : Half) (pack : Pack) (pal : Byte) (s : State) : Result := tdM4Dbl sx.toNat pack pal s

/-- `TD.M2.SPR` (R99). -/
def execTdM2Spr (sx : Half) (pack : Byte) (pal : Byte) (s : State) : Result := tdM2Spr sx.toNat pack pal s

/-- `TD.M2.BG` (R98). -/
def execTdM2Bg (sx : Half) (pack : Byte) (pal : Byte) (s : State) : Result := tdM2Bg sx.toNat pack pal s

/-- `TD.M2.SPR_DBL` (R100). -/
def execTdM2SprDbl (sx : Half) (pack : Byte) (pal : Byte) (s : State) : Result := tdM2SprDbl sx.toNat pack pal s

end Sys2Proof.Machine
end

