-- ==== Sys2Proof/Machine/SpriteScanner.lean ====
section
/-! DEFINITION. SS, the sprite scanner (spec/41_sprite_scanner.md). Both scans are one walk (R110) over their table's entries,
with the tests on an entry in the order sentinel, span, capacity (R112); both draws go over the filled slots from the last to
the first. -/

namespace Sys2Proof.Machine

/-- The walk of R110 and R112 over the entries `is`, with the slots collected so far: the collected slots and, if an entry beyond
the capacity was met, its index. -/
def walk (cap : Nat) (stop hit : Nat → Bool) (mk : Nat → Slot) : List Nat → List Slot → List Slot × Option Nat
  | [], acc => (acc, none)
  | i :: is, acc =>
    if stop i then (acc, none)
    else if !hit i then walk cap stop hit mk is acc
    else if acc.length = cap then (acc, some i)
    else walk cap stop hit mk is (acc ++ [mk i])

/-- The slot file with the collected slots in front; the slots beyond them keep what they held. -/
def fillSlots (slots : List Slot) (old : Vector Slot 8) : Vector Slot 8 :=
  tabulate 8 (fun k =>
    match slots[k]? with
    | some t => t
    | none => if h : k < 8 then old[k] else Slot.empty)

/-- The end of a scan: the slot file and `nslot` written, the overflow bits and the collision bit ORed into `status`. -/
def commitScan (slots : List Slot) (overflowBits : Byte) (s : State) : State :=
  { (s.orStatus overflowBits).orStatus (collision slots.length) with
    slot := fillSlots slots s.slot
    nslot := ⟨min slots.length 8, by omega⟩ }

/-- The walk of SS.M4.SCAN on `line` (R111). -/
def walk4 (s : State) (line : Nat) : List Slot × Option Nat :=
  walk Config.nSprM4 (stop4 s) (hit4 s line) (slot4 s line) (List.range Config.satEntriesM4) []

/-- The walk of SS.M2.SCAN on `line` (R120). -/
def walk2 (s : State) (line : Nat) : List Slot × Option Nat :=
  walk Config.nSprM2 (stop2 s) (hit2 s line) (slot2 s line) (List.range Config.satEntriesM2) []

/-- The effect of SS.M4.SCAN (R111). -/
def scanM4 (line : Nat) (s : State) : State :=
  commitScan (walk4 s line).1 (overflow4 (walk4 s line).2) s

/-- The effect of SS.M2.SCAN (R120). -/
def scanM2 (line : Nat) (s : State) : State :=
  commitScan (walk2 s line).1 (overflow2 (walk2 s line).2) s

/-- `s = nslot - 1 down to 0`: reverse table order (R110). -/
def drawOrder (s : State) : List Nat := (List.range s.nslot.val).reverse

/-- One slot of SS.M4.DRAW: second palette, double width when zoomed (R113). -/
def drawSlot4 (k : Nat) (s : State) : Result :=
  if zoom s then tdM4Dbl (slotAt s k).x (vread32 s (slotAt s k).addr.toNat) 0x10#8 s
  else tdM4Norm (slotAt s k).x (vread32 s (slotAt s k).addr.toNat) 0x10#8 s

/-- The effect of SS.M4.DRAW (R113). -/
def drawM4 (s : State) : Result := forEach drawSlot4 (drawOrder s) s

/-- One half of a mode-2 sprite, drawn only where its offset is positive (R122, D18). -/
def drawHalf2 (x : Int) (pack : Byte) (pal : Byte) (s : State) : Result :=
  if 0 < x then (if zoom s then tdM2SprDbl x pack pal s else tdM2Spr x pack pal s) else .next s

/-- `w`: 16 if zoomed, else 8 (R122). -/
def halfWidth (s : State) : Nat := if zoom s then 16 else 8

/-- One slot of SS.M2.DRAW: the first half, then with `SIZE` the second, 16 bytes on and `w` pixels right (R122). -/
def drawSlot2 (k : Nat) (s : State) : Result :=
  andThen
    (drawHalf2 (slotAt s k).x (vread8 s (slotAt s k).addr.toNat) ((slotColour s k).setWidth 8) s)
    (fun s =>
      if sprSize s then
        drawHalf2 ((slotAt s k).x + halfWidth s) (vread8 s ((slotAt s k).addr.toNat + 16)) ((slotColour s k).setWidth 8) s
      else .next s)

/-- Step the free value's counter past the slots of a draw that used it (assumption 7). -/
def useFreeColours (s : State) : State :=
  { s with freeCount := if hasUncoloured s then s.freeCount + 8 else s.freeCount }

/-- The effect of SS.M2.DRAW (R122). -/
def drawM2 (s : State) : Result :=
  andThen (forEach drawSlot2 (drawOrder s) s) (fun s => .next (useFreeColours s))

/-! ## Meanings -/

/-- `SS.M4.SCAN` (R111). -/
def execSsM4Scan (line : Byte) (s : State) : Result :=
  if line.toNat < 240 then .next (scanM4 line.toNat s) else .refused .operandOutOfRange

/-- `SS.M4.DRAW` (R113). -/
def execSsM4Draw (s : State) : Result := drawM4 s

/-- `SS.M2.SCAN` (R120). -/
def execSsM2Scan (line : Byte) (s : State) : Result :=
  if line.toNat < 240 then .next (scanM2 line.toNat s) else .refused .operandOutOfRange

/-- `SS.M2.DRAW` (R122). -/
def execSsM2Draw (s : State) : Result := drawM2 s

end Sys2Proof.Machine
end

