-- ==== Sys2Proof/Machine/StripCompositor.lean ====
section
/-! DEFINITION. SC, the strip compositor (spec/42_strip_compositor.md). The two caches the spec describes are no state and are
left out (R33, R135). -/

namespace Sys2Proof.Machine

/-- Column `k` of the low pass (R131): a priority tile is skipped, any other is written whole. -/
def lowColumn (row dx col ty k : Nat) (s : State) : Result :=
  if tilePrio (columnCode s row col k) then .next s
  else if tileHflip (columnCode s row col k) then
    tdM4FlipBg (dx + 8 * k : Nat) (vread32 s (tileAddr (columnCode s row col k) ty)) (tilePal (columnCode s row col k)) s
  else
    tdM4NormBg (dx + 8 * k : Nat) (vread32 s (tileAddr (columnCode s row col k) ty)) (tilePal (columnCode s row col k)) s

/-- Column `k` of the high pass (R132): only a priority tile is drawn, where its pixels are not zero. -/
def highColumn (row dx col ty k : Nat) (s : State) : Result :=
  if !tilePrio (columnCode s row col k) then .next s
  else if vread32 s (tileAddr (columnCode s row col k) ty) = 0#32 then .next s
  else if tileHflip (columnCode s row col k) then
    tdM4Flip (dx + 8 * k : Nat) (vread32 s (tileAddr (columnCode s row col k) ty)) (tilePal (columnCode s row col k)) s
  else
    tdM4Norm (dx + 8 * k : Nat) (vread32 s (tileAddr (columnCode s row col k) ty)) (tilePal (columnCode s row col k)) s

/-- A strip of `n` columns from column `k = 0` (R130), within the ranges of R70. -/
def strip (column : Nat → State → Result) (dx n : Nat) (s : State) : Result :=
  if n ≤ 33 ∧ dx + 8 * n ≤ 304 then forEach column (List.range n) s else .refused .operandOutOfRange

/-- The low pass over one strip (R131). -/
def lowStrip (row dx n col ty : Nat) (s : State) : Result := strip (lowColumn row dx col ty) dx n s

/-- The high pass over one strip (R132). -/
def highStrip (row dx n col ty : Nat) (s : State) : Result := strip (highColumn row dx col ty) dx n s

/-- The offset of a mode-2 background row in its third of the pattern and colour tables: `(name << 3) + (line & 7)` for the name
of column `k` (R134). -/
def rowOffset2 (s : State) (line k : Nat) : Nat :=
  ((vread8 s (nameBase2 s + (line >>> 3) * 32 + k)).toNat <<< 3) + (line &&& 7)

/-- The pattern byte of column `k` of `line` (R134). -/
def rowPattern2 (s : State) (line k : Nat) : Byte :=
  vread8 s (patternBase2 s + ((line >>> 6) <<< 11) + rowOffset2 s line k)

/-- The colour byte of column `k` of `line` (R134). -/
def rowColours2 (s : State) (line k : Nat) : Byte :=
  vread8 s (colourBase2 s + ((line >>> 6) <<< 11) + rowOffset2 s line k)

/-- Column `k` of the mode-2 background of `line` (R134). -/
def backgroundColumn2 (line k : Nat) (s : State) : Result :=
  tdM2Bg (8 + 8 * k : Nat) (rowPattern2 s line k) (rowColours2 s line k) s

/-- The mode-2 background strip of `line` (R134). -/
def background2Strip (line : Nat) (s : State) : Result := forEach (backgroundColumn2 line) (List.range 32) s

/-! ## Meanings -/

/-- `SC.M4.LOW` (R131). -/
def execScM4Low (row dx : Half) (n col ty : Byte) (s : State) : Result :=
  lowStrip row.toNat dx.toNat n.toNat col.toNat ty.toNat s

/-- `SC.M4.HIGH` (R132). -/
def execScM4High (row dx : Half) (n col ty : Byte) (s : State) : Result :=
  highStrip row.toNat dx.toNat n.toNat col.toNat ty.toNat s

/-- `SC.M2.BG` (R134). -/
def execScM2Bg (line : Byte) (s : State) : Result :=
  if line.toNat < 240 then background2Strip line.toNat s else .refused .operandOutOfRange

end Sys2Proof.Machine
end

