-- ==== Sys2Proof/Machine/LineSequencer.lean ====
section
/-! DEFINITION. LS, the line sequencer (spec/43_line_sequencer.md): frame start, the eight steps of a line, the two displays,
the backdrop fill and the column mask. -/

namespace Sys2Proof.Machine

/-- The geometry 4-tuple `g` of R150 for the live registers. -/
def liveGeometry (s : State) : Geometry :=
  { offset := (frameGeometry s).2, height := (frameGeometry s).1
    coffset := s.params.coffset, columns := s.params.columns }

/-- The notification of R150: sent if the mode changed or the geometry is not the one last sent. -/
def notifyGeometry (s : State) : State :=
  if s.modeChanged || decide (s.notified ≠ some (liveGeometry s)) then
    { s with
      calls := .geometryChange (liveGeometry s) :: s.calls
      notified := some (liveGeometry s)
      modeChanged := false }
  else s

/-- The effect of LS.FRAME_START (R150, R211). -/
def frameStart (s : State) : State :=
  { notifyGeometry s with
    lines := (frameGeometry s).1
    screenOffset := (frameGeometry s).2
    skipCount := 0
    outRow := (frameGeometry s).2
    order := .inFrame 0 }

/-- The effect of LS.BACKFILL: all 304 bytes (R156). -/
def backfill (s : State) : State := s.setLb (Vector.replicate 304 (backdrop s))

/-- The effect of LS.MASK_COL0: `LB[8..15]` (R161). -/
def maskCol0 (s : State) : State :=
  if mask0 s then s.setLb (drawPixels s.lb 8 8 (fun _ => some Config.maskIndex)) else s

/-- The strips of one pass of `line` (R159): one strip, or under VLOCK a scrolled one and a fixed one of 8 columns. -/
def passStrips (pass : Nat → Nat → Nat → Nat → Nat → State → Result) (line : Nat) (s : State) : Result :=
  let p := scrollOf s line
  if vlock s then
    andThen (pass p.rowS p.dx (p.cells - 8) p.col0 p.tyS s)
      (fun s => pass p.rowF (p.dx + 8 * (p.cells - 8)) 8 (p.col0 + p.cells - 8) p.tyF s)
  else pass p.rowS p.dx p.cells p.col0 p.tyS s

/-- Do `f`, unless it is killed (R29). -/
def unlessKilled (killed : Bool) (f : State → Result) (s : State) : Result := if killed then .next s else f s

/-- The effect of LS.M4.DISPLAY (R157): low pass, sprites, high pass. -/
def displayM4 (line : Nat) (s : State) : Result :=
  andThen (unlessKilled (killBg s) (passStrips lowStrip line) s) (fun s =>
    andThen (unlessKilled (killSpr s) (fun s => drawM4 (scanM4 line s)) s) (fun s =>
      unlessKilled (killFg s) (passStrips highStrip line) s))

/-- The effect of LS.M2.DISPLAY (R160): background, sprites, and an empty foreground. -/
def displayM2 (line : Nat) (s : State) : Result :=
  andThen (unlessKilled (killBg s) (background2Strip line) s) (fun s =>
    unlessKilled (killSpr s) (fun s => drawM2 (scanM2 line s)) s)

/-- Step 4 of a line: the display of the selected mode, if the display is on (R153). -/
def displayLine (line : Nat) (s : State) : Result :=
  if disp s then (if mode4 s then displayM4 line s else displayM2 line s) else .next s

/-- Step 2: the `scan_begin` hook and its answer (R153, R155). -/
def scanBegin (line : Nat) (s : State) : State := (s.called (.scanBegin line)).requestSkip s.hookBegin

/-- Step 7: the `scan_end` hook and its answer (R153, R155). -/
def scanEnd (line : Nat) (s : State) : State := (s.called (.scanEnd line)).requestSkip s.hookEnd

/-- Step 8: `out_row <- out_row + 1` (R153, R162); the calling order counts the line (assumption 9). -/
def advanceRow (s : State) : State := { s with outRow := s.outRow + 1, order := s.order.lineIssued }

/-- Steps 2 to 8 of a line that is not skipped (R153). -/
def drawnLine (line : Nat) (s : State) : Result :=
  andThen (displayLine line (backfill (scanBegin line s))) (fun s =>
    andThen (finalize (maskCol0 s)) (fun s => .next (advanceRow (scanEnd line s))))

/-- Step 1: a skipped line only counts `skip_count` down (R153, R222); the calling order counts the line (assumption 9). -/
def skippedLine (s : State) : State := { s with skipCount := s.skipCount - 1, order := s.order.lineIssued }

/-- The effect of LS.LINE_DRAW (R153) once its preconditions hold (R70, R192, R212). -/
def lineDraw (line : Nat) (s : State) : Result :=
  if ¬line < 240 then .refused .operandOutOfRange
  else if ¬line < s.lines then .refused .lineOutOfRange
  else if s.fmt = .notSelected then .refused .noFormatSelected
  else if s.order = .noFrame then .refused .frameNotStarted
  else if 0 < s.skipCount then .next (skippedLine s)
  else drawnLine line s

/-! ## Meanings -/

/-- `LS.FRAME_START` (R150). -/
def execLsFrameStart (s : State) : Result := .next (frameStart s)

/-- `LS.LINE_DRAW` (R153). -/
def execLsLineDraw (line : Byte) (s : State) : Result := lineDraw line.toNat s

/-- `LS.BACKFILL` (R156). -/
def execLsBackfill (s : State) : Result := .next (backfill s)

/-- `LS.M4.DISPLAY` (R157). -/
def execLsM4Display (line : Byte) (s : State) : Result :=
  if line.toNat < 240 then displayM4 line.toNat s else .refused .operandOutOfRange

/-- `LS.M2.DISPLAY` (R160). -/
def execLsM2Display (line : Byte) (s : State) : Result :=
  if line.toNat < 240 then displayM2 line.toNat s else .refused .operandOutOfRange

/-- `LS.MASK_COL0` (R161). -/
def execLsMaskCol0 (s : State) : Result := .next (maskCol0 s)

end Sys2Proof.Machine
end

