-- ==== Sys2Proof/Machine/Dispatch.lean ====
section
/-! DEFINITION. The dispatch: one arm per operation of spec/30_encoding.md R75, in the table's order. -/

namespace Sys2Proof.Machine

def exec (i : Instr) (s : State) : Host.Outcome State Fault Refusal :=
  match i with
  | .tdM4Norm sx pack pal => Sys2Proof.Machine.execTdM4Norm sx pack pal s
  | .tdM4Flip sx pack pal => Sys2Proof.Machine.execTdM4Flip sx pack pal s
  | .tdM4NormBg sx pack pal => Sys2Proof.Machine.execTdM4NormBg sx pack pal s
  | .tdM4FlipBg sx pack pal => Sys2Proof.Machine.execTdM4FlipBg sx pack pal s
  | .tdM4Dbl sx pack pal => Sys2Proof.Machine.execTdM4Dbl sx pack pal s
  | .tdM2Spr sx pack pal => Sys2Proof.Machine.execTdM2Spr sx pack pal s
  | .tdM2Bg sx pack pal => Sys2Proof.Machine.execTdM2Bg sx pack pal s
  | .tdM2SprDbl sx pack pal => Sys2Proof.Machine.execTdM2SprDbl sx pack pal s
  | .ssM4Scan line => Sys2Proof.Machine.execSsM4Scan line s
  | .ssM4Draw => Sys2Proof.Machine.execSsM4Draw s
  | .ssM2Scan line => Sys2Proof.Machine.execSsM2Scan line s
  | .ssM2Draw => Sys2Proof.Machine.execSsM2Draw s
  | .scM4Low row dx n col ty => Sys2Proof.Machine.execScM4Low row dx n col ty s
  | .scM4High row dx n col ty => Sys2Proof.Machine.execScM4High row dx n col ty s
  | .scM2Bg line => Sys2Proof.Machine.execScM2Bg line s
  | .lsFrameStart => Sys2Proof.Machine.execLsFrameStart s
  | .lsLineDraw line => Sys2Proof.Machine.execLsLineDraw line s
  | .lsBackfill => Sys2Proof.Machine.execLsBackfill s
  | .lsM4Display line => Sys2Proof.Machine.execLsM4Display line s
  | .lsM2Display line => Sys2Proof.Machine.execLsM2Display line s
  | .lsMaskCol0 => Sys2Proof.Machine.execLsMaskCol0 s
  | .pfSelect code => Sys2Proof.Machine.execPfSelect code s
  | .pfRebuild => Sys2Proof.Machine.execPfRebuild s
  | .pfFinalize => Sys2Proof.Machine.execPfFinalize s

end Sys2Proof.Machine
end

