-- ==== Sys2Proof/WellFormed.lean ====
section
/-! DEFINITION. The operand ranges a caller must keep (spec/30_encoding.md R70) and the reserved format codes (R77). These
are the checks on an operation as syntax; the meanings refuse what fails them (R192). -/

namespace Sys2Proof

/-- An operation whose operands are inside the ranges of R70 and R77. -/
def Instr.wf : Instr → Bool
  | .tdM4Norm sx _ _ => decide (sx.toNat + 8 ≤ 304)
  | .tdM4Flip sx _ _ => decide (sx.toNat + 8 ≤ 304)
  | .tdM4NormBg sx _ _ => decide (sx.toNat + 8 ≤ 304)
  | .tdM4FlipBg sx _ _ => decide (sx.toNat + 8 ≤ 304)
  | .tdM4Dbl sx _ _ => decide (sx.toNat + 16 ≤ 304)
  | .tdM2Spr sx _ _ => decide (sx.toNat + 8 ≤ 304)
  | .tdM2Bg sx _ _ => decide (sx.toNat + 8 ≤ 304)
  | .tdM2SprDbl sx _ _ => decide (sx.toNat + 16 ≤ 304)
  | .ssM4Scan line => decide (line.toNat < 240)
  | .ssM4Draw => true
  | .ssM2Scan line => decide (line.toNat < 240)
  | .ssM2Draw => true
  | .scM4Low _ dx n _ _ => decide (n.toNat ≤ 33 ∧ dx.toNat + 8 * n.toNat ≤ 304)
  | .scM4High _ dx n _ _ => decide (n.toNat ≤ 33 ∧ dx.toNat + 8 * n.toNat ≤ 304)
  | .scM2Bg line => decide (line.toNat < 240)
  | .lsFrameStart => true
  | .lsLineDraw line => decide (line.toNat < 240)
  | .lsBackfill => true
  | .lsM4Display line => decide (line.toNat < 240)
  | .lsM2Display line => decide (line.toNat < 240)
  | .lsMaskCol0 => true
  | .pfSelect code => decide (code.toNat < 5)
  | .pfRebuild => true
  | .pfFinalize => true

end Sys2Proof
end

