-- ==== Sys2Proof/Decode.lean ====
section
/-! DEFINITION. The serial form of spec/30_encoding.md R60 and R75: the command byte, then each operand little-endian in its
listed width. `decode` is total on any bytes and rejects by name; `encode` is written from the same table. -/

namespace Sys2Proof

/-- Why a byte sequence is no operation. -/
inductive DecodeError where
  /-- The command byte is outside the 24 of R75: reserved, refused (R76). -/
  | reservedCommand (cmd : Byte)
  /-- The bytes end before the operation's last operand (assumption 4). -/
  | truncated
deriving DecidableEq, Repr

/-- What decoding answers: an operation and the bytes after it, or the reason there is none. -/
abbrev Decoded := Except DecodeError (Instr × List Byte)

/-- The next operand of 8 bits. -/
def take8 : List Byte → Option (Byte × List Byte)
  | b :: r => some (b, r)
  | [] => none

/-- The next operand of 16 bits, little-endian (R75). -/
def take16 : List Byte → Option (Half × List Byte)
  | b0 :: b1 :: r => some (b1 ++ b0, r)
  | _ => none

/-- The next operand of 32 bits, little-endian (R75). -/
def take32 : List Byte → Option (Pack × List Byte)
  | b0 :: b1 :: b2 :: b3 :: r => some (((b3 ++ b2 : Half) ++ b1 : BitVec 24) ++ b0, r)
  | _ => none

/-- Operands `sx` u16, `pack` u32, `pal` u8: format CMD8+sx16+pack32+pal8. -/
def decodeTd4 (mk : Half → Pack → Byte → Instr) (bs : List Byte) : Option (Instr × List Byte) :=
  match take16 bs with
  | none => none
  | some (sx, bs) =>
    match take32 bs with
    | none => none
    | some (pack, bs) =>
      match take8 bs with
      | none => none
      | some (pal, bs) => some (mk sx pack pal, bs)

/-- Operands `sx` u16, `pack` u8, `pal` u8: format CMD8+sx16+pack8+pal8. -/
def decodeTd2 (mk : Half → Byte → Byte → Instr) (bs : List Byte) : Option (Instr × List Byte) :=
  match take16 bs with
  | none => none
  | some (sx, bs) =>
    match take8 bs with
    | none => none
    | some (pack, bs) =>
      match take8 bs with
      | none => none
      | some (pal, bs) => some (mk sx pack pal, bs)

/-- Operands `row` u16, `dx` u16, `n` u8, `col` u8, `ty` u8: format CMD8+row16+dx16+n8+col8+ty8. -/
def decodeStrip (mk : Half → Half → Byte → Byte → Byte → Instr) (bs : List Byte) : Option (Instr × List Byte) :=
  match take16 bs with
  | none => none
  | some (row, bs) =>
    match take16 bs with
    | none => none
    | some (dx, bs) =>
      match take8 bs with
      | none => none
      | some (n, bs) =>
        match take8 bs with
        | none => none
        | some (col, bs) =>
          match take8 bs with
          | none => none
          | some (ty, bs) => some (mk row dx n col ty, bs)

/-- One operand of 8 bits: formats CMD8+line8 and CMD8+code8. -/
def decodeByte (mk : Byte → Instr) (bs : List Byte) : Option (Instr × List Byte) :=
  match take8 bs with
  | none => none
  | some (b, bs) => some (mk b, bs)

/-- No operand: format CMD8. -/
def decodeBare (i : Instr) (bs : List Byte) : Option (Instr × List Byte) := some (i, bs)

/-- The operand decoder of a command byte, or nothing for a reserved one: the operation map of R75. -/
def operandsOf (cmd : Nat) : Option (List Byte → Option (Instr × List Byte)) :=
  match cmd with
  | 0x00 => some (decodeTd4 .tdM4Norm)
  | 0x01 => some (decodeTd4 .tdM4Flip)
  | 0x02 => some (decodeTd4 .tdM4NormBg)
  | 0x03 => some (decodeTd4 .tdM4FlipBg)
  | 0x04 => some (decodeTd4 .tdM4Dbl)
  | 0x08 => some (decodeTd2 .tdM2Spr)
  | 0x0A => some (decodeTd2 .tdM2Bg)
  | 0x0C => some (decodeTd2 .tdM2SprDbl)
  | 0x10 => some (decodeByte .ssM4Scan)
  | 0x11 => some (decodeBare .ssM4Draw)
  | 0x12 => some (decodeByte .ssM2Scan)
  | 0x13 => some (decodeBare .ssM2Draw)
  | 0x20 => some (decodeStrip .scM4Low)
  | 0x21 => some (decodeStrip .scM4High)
  | 0x22 => some (decodeByte .scM2Bg)
  | 0x30 => some (decodeBare .lsFrameStart)
  | 0x31 => some (decodeByte .lsLineDraw)
  | 0x32 => some (decodeBare .lsBackfill)
  | 0x33 => some (decodeByte .lsM4Display)
  | 0x34 => some (decodeByte .lsM2Display)
  | 0x35 => some (decodeBare .lsMaskCol0)
  | 0x40 => some (decodeByte .pfSelect)
  | 0x41 => some (decodeBare .pfRebuild)
  | 0x42 => some (decodeBare .pfFinalize)
  | _ => none

/-- The first operation of a byte sequence and the bytes after it. -/
def decode : List Byte → Decoded
  | [] => .error .truncated
  | cmd :: bs =>
    match operandsOf cmd.toNat with
    | none => .error (.reservedCommand cmd)
    | some operands =>
      match operands bs with
      | none => .error .truncated
      | some r => .ok r

/-- The command byte of an operation (R75). -/
def command : Instr → Byte
  | .tdM4Norm _ _ _ => 0x00#8
  | .tdM4Flip _ _ _ => 0x01#8
  | .tdM4NormBg _ _ _ => 0x02#8
  | .tdM4FlipBg _ _ _ => 0x03#8
  | .tdM4Dbl _ _ _ => 0x04#8
  | .tdM2Spr _ _ _ => 0x08#8
  | .tdM2Bg _ _ _ => 0x0A#8
  | .tdM2SprDbl _ _ _ => 0x0C#8
  | .ssM4Scan _ => 0x10#8
  | .ssM4Draw => 0x11#8
  | .ssM2Scan _ => 0x12#8
  | .ssM2Draw => 0x13#8
  | .scM4Low _ _ _ _ _ => 0x20#8
  | .scM4High _ _ _ _ _ => 0x21#8
  | .scM2Bg _ => 0x22#8
  | .lsFrameStart => 0x30#8
  | .lsLineDraw _ => 0x31#8
  | .lsBackfill => 0x32#8
  | .lsM4Display _ => 0x33#8
  | .lsM2Display _ => 0x34#8
  | .lsMaskCol0 => 0x35#8
  | .pfSelect _ => 0x40#8
  | .pfRebuild => 0x41#8
  | .pfFinalize => 0x42#8

/-- A 16-bit operand as its two bytes, low byte first. -/
def bytes16 (v : Half) : List Byte := [v.extractLsb' 0 8, v.extractLsb' 8 8]

/-- A 32-bit operand as its four bytes, low byte first. -/
def bytes32 (v : Pack) : List Byte :=
  [v.extractLsb' 0 8, v.extractLsb' 8 8, v.extractLsb' 16 8, v.extractLsb' 24 8]

/-- The operand bytes of an operation, in the serial order of R75. -/
def operandBytes : Instr → List Byte
  | .tdM4Norm sx pack pal => bytes16 sx ++ bytes32 pack ++ [pal]
  | .tdM4Flip sx pack pal => bytes16 sx ++ bytes32 pack ++ [pal]
  | .tdM4NormBg sx pack pal => bytes16 sx ++ bytes32 pack ++ [pal]
  | .tdM4FlipBg sx pack pal => bytes16 sx ++ bytes32 pack ++ [pal]
  | .tdM4Dbl sx pack pal => bytes16 sx ++ bytes32 pack ++ [pal]
  | .tdM2Spr sx pack pal => bytes16 sx ++ [pack, pal]
  | .tdM2Bg sx pack pal => bytes16 sx ++ [pack, pal]
  | .tdM2SprDbl sx pack pal => bytes16 sx ++ [pack, pal]
  | .ssM4Scan line => [line]
  | .ssM4Draw => []
  | .ssM2Scan line => [line]
  | .ssM2Draw => []
  | .scM4Low row dx n col ty => bytes16 row ++ bytes16 dx ++ [n, col, ty]
  | .scM4High row dx n col ty => bytes16 row ++ bytes16 dx ++ [n, col, ty]
  | .scM2Bg line => [line]
  | .lsFrameStart => []
  | .lsLineDraw line => [line]
  | .lsBackfill => []
  | .lsM4Display line => [line]
  | .lsM2Display line => [line]
  | .lsMaskCol0 => []
  | .pfSelect code => [code]
  | .pfRebuild => []
  | .pfFinalize => []

/-- The serial form of an operation. -/
def encode (i : Instr) : List Byte := command i :: operandBytes i

/-- How many bytes the operation with this command byte takes in all; the longest length for a reserved byte. -/
def serialLength (cmd : Nat) : Nat :=
  match cmd with
  | 0x00 | 0x01 | 0x02 | 0x03 | 0x04 => 8
  | 0x08 | 0x0A | 0x0C => 5
  | 0x10 | 0x12 | 0x22 | 0x31 | 0x33 | 0x34 | 0x40 => 2
  | 0x11 | 0x13 | 0x30 | 0x32 | 0x35 | 0x41 | 0x42 => 1
  | _ => 8

/-- The first `n` bytes of a number, bits 7:0 first. -/
def bytesOf : Nat → Nat → List Byte
  | 0, _ => []
  | n + 1, w => BitVec.ofNat 8 w :: bytesOf n (w / 256)

/-- The bytes of the table word `w` of `nbits` bits as the serial form lays them out: bits 7:0 are the command byte, the
operand bytes follow, and every bit above `nbits` is 0. No operation is longer than eight bytes. -/
def tableBytes (nbits w : Nat) : List Byte := bytesOf 8 (w % 2 ^ nbits)

/-- The operation the decoder reads from the table word `w` of `nbits` bits. -/
def decodeTableWord (nbits w : Nat) : Option Instr :=
  match decode (tableBytes nbits w) with
  | .ok (i, _) => some i
  | .error _ => none

end Sys2Proof
end

