-- ==== Sys2Proof/Machine/Fetch.lean ====
section
/-! DEFINITION. Taking the next thing the host does from its list of actions (spec/10_state.md R13, spec/20_memory.md R50): an
operation of the serial stream, or a directive, which acts at once because no operation is running. -/

namespace Sys2Proof.Machine

/-- What the host does next. -/
inductive Fetched where
  /-- Nothing is pending: the block does nothing and keeps its state (spec/60_exceptions.md section 6). -/
  | idle
  /-- The host has acted by itself, leaving this state. -/
  | acted (s : State)
  /-- An operation, and the state with it taken from the stream. -/
  | operation (i : Instr) (s : State)
  /-- A byte sequence that is no operation. -/
  | rejected (r : Refusal)

/-- The refusal for bytes that do not decode (R76, assumption 4). -/
def rejection : DecodeError → Refusal
  | .reservedCommand cmd => .reservedCommand cmd
  | .truncated => .truncatedCommand

/-- An operation of the stretch `bs`, with `h` the actions after it; a stretch with no byte left is dropped. -/
def fetchStream (bs : List Byte) (h : List HostAction) (s : State) : Fetched :=
  match bs with
  | [] => .acted (s.setHost h)
  | _ :: _ =>
    match decode bs with
    | .ok (i, rest) => .operation i (s.setHost (pushStream rest h))
    | .error e => .rejected (rejection e)

/-- The next thing the host does. -/
def fetch (s : State) : Fetched :=
  match s.host with
  | [] => .idle
  | .issue bs :: h => fetchStream bs h s
  | a :: h => .acted (applyAction a (s.setHost h))

/-- The serial form of the table word `w`, without the zero bytes beyond the operation's own length. -/
def tableStream (nbits w : Nat) : List Byte :=
  (tableBytes nbits w).take (serialLength (w % 2 ^ nbits % 256))

end Sys2Proof.Machine
end

