-- ==== Sys2Proof/Machine/Step.lean ====
section
/-! DEFINITION. One step: the next action of the host. Operations are atomic (R5), so the host's directives stand between them
(R50). -/

namespace Sys2Proof.Machine

/-- One step of the machine: an operation runs to completion, a directive of the host takes effect, or, with nothing pending,
nothing changes. -/
def step (s : State) : Host.Outcome State Fault Refusal :=
  match fetch s with
  | .idle => .next s
  | .acted s => .next s
  | .operation i s => exec i s
  | .rejected r => .refused r

/-- The state with one operation, the table word `w` of `nbits` bits, issued in front of the host's actions. -/
def State.withFetchWord (s : State) (nbits w : Nat) : State :=
  s.setHost (.issue (tableStream nbits w) :: s.host)

end Sys2Proof.Machine
end

