-- ==== Sys2Proof/Laws/Decode.lean ====
section
/-! SUPPORT. Operand by operand, the serial form and its decoder agree; the length of every serial form. -/

namespace Sys2Proof

@[simp] theorem take8_cons (b : Byte) (r : List Byte) : take8 (b :: r) = some (b, r) := rfl

/-- A 16-bit value is its two bytes put together again. -/
theorem join_bytes16 (v : Half) : (v.extractLsb' 8 8 ++ v.extractLsb' 0 8 : BitVec 16) = v := by
  apply BitVec.eq_of_getLsbD_eq
  intro i hi
  rw [BitVec.getLsbD_append, BitVec.getLsbD_extractLsb', BitVec.getLsbD_extractLsb']
  by_cases h : i < 8
  · simp [h]
  · have h' : i - 8 < 8 := by omega
    simp only [h, h', decide_true, decide_false, Bool.true_and, if_false]
    rw [show 8 + (i - 8) = i by omega]

/-- A 32-bit value is its four bytes put together again. -/
theorem join_bytes32 (v : Pack) :
    ((((v.extractLsb' 24 8 ++ v.extractLsb' 16 8 : Half) ++ v.extractLsb' 8 8 : BitVec 24) ++ v.extractLsb' 0 8) : Pack) = v := by
  apply BitVec.eq_of_getLsbD_eq
  intro i hi
  simp only [BitVec.getLsbD_append, BitVec.getLsbD_extractLsb']
  by_cases h0 : i < 8
  · simp [h0]
  · by_cases h1 : i - 8 < 8
    · simp only [h0, h1, decide_true, decide_false, Bool.true_and, if_true, if_false]
      rw [show 8 + (i - 8) = i by omega]
    · by_cases h2 : i - 8 - 8 < 8
      · simp only [h0, h1, h2, decide_true, decide_false, Bool.true_and, if_true, if_false]
        rw [show 16 + (i - 8 - 8) = i by omega]
      · have h3 : i - 8 - 8 - 8 < 8 := by omega
        simp only [h0, h1, h2, h3, decide_true, decide_false, Bool.true_and, if_false]
        rw [show 24 + (i - 8 - 8 - 8) = i by omega]

/-- Reading a 16-bit operand gives the value whose bytes stand there. -/
@[simp] theorem take16_bytes16 (v : Half) (r : List Byte) : take16 (bytes16 v ++ r) = some (v, r) := by
  simp only [bytes16, List.cons_append, List.nil_append, take16]
  rw [join_bytes16]

/-- Reading a 32-bit operand gives the value whose bytes stand there. -/
@[simp] theorem take32_bytes32 (v : Pack) (r : List Byte) : take32 (bytes32 v ++ r) = some (v, r) := by
  simp only [bytes32, List.cons_append, List.nil_append, take32]
  rw [join_bytes32]

@[simp] theorem bytes16_length (v : Half) : (bytes16 v).length = 2 := rfl
@[simp] theorem bytes32_length (v : Pack) : (bytes32 v).length = 4 := rfl

end Sys2Proof
end

