-- ==== Sys2Proof/Laws/PerInstr.lean ====
section
/-! SUPPORT. Facts about every operation as syntax, one lemma per constructor: the family `SerialLength`. -/

namespace Sys2Proof.Laws.SerialLength

/-- The serial form of the operation is as long as its command byte says, and starts with that byte. -/
abbrev Statement (i : Instr) : Prop :=
  (encode i).length = serialLength (command i).toNat ∧ (encode i).head? = some (command i)

theorem tdM4Norm (a : Half) (b : Pack) (c : Byte) : Statement (.tdM4Norm a b c) := ⟨rfl, rfl⟩
theorem tdM4Flip (a : Half) (b : Pack) (c : Byte) : Statement (.tdM4Flip a b c) := ⟨rfl, rfl⟩
theorem tdM4NormBg (a : Half) (b : Pack) (c : Byte) : Statement (.tdM4NormBg a b c) := ⟨rfl, rfl⟩
theorem tdM4FlipBg (a : Half) (b : Pack) (c : Byte) : Statement (.tdM4FlipBg a b c) := ⟨rfl, rfl⟩
theorem tdM4Dbl (a : Half) (b : Pack) (c : Byte) : Statement (.tdM4Dbl a b c) := ⟨rfl, rfl⟩
theorem tdM2Spr (a : Half) (b : Byte) (c : Byte) : Statement (.tdM2Spr a b c) := ⟨rfl, rfl⟩
theorem tdM2Bg (a : Half) (b : Byte) (c : Byte) : Statement (.tdM2Bg a b c) := ⟨rfl, rfl⟩
theorem tdM2SprDbl (a : Half) (b : Byte) (c : Byte) : Statement (.tdM2SprDbl a b c) := ⟨rfl, rfl⟩
theorem ssM4Scan (a : Byte) : Statement (.ssM4Scan a) := ⟨rfl, rfl⟩
theorem ssM4Draw : Statement (.ssM4Draw) := ⟨rfl, rfl⟩
theorem ssM2Scan (a : Byte) : Statement (.ssM2Scan a) := ⟨rfl, rfl⟩
theorem ssM2Draw : Statement (.ssM2Draw) := ⟨rfl, rfl⟩
theorem scM4Low (a : Half) (b : Half) (c : Byte) (d : Byte) (e : Byte) : Statement (.scM4Low a b c d e) := ⟨rfl, rfl⟩
theorem scM4High (a : Half) (b : Half) (c : Byte) (d : Byte) (e : Byte) : Statement (.scM4High a b c d e) := ⟨rfl, rfl⟩
theorem scM2Bg (a : Byte) : Statement (.scM2Bg a) := ⟨rfl, rfl⟩
theorem lsFrameStart : Statement (.lsFrameStart) := ⟨rfl, rfl⟩
theorem lsLineDraw (a : Byte) : Statement (.lsLineDraw a) := ⟨rfl, rfl⟩
theorem lsBackfill : Statement (.lsBackfill) := ⟨rfl, rfl⟩
theorem lsM4Display (a : Byte) : Statement (.lsM4Display a) := ⟨rfl, rfl⟩
theorem lsM2Display (a : Byte) : Statement (.lsM2Display a) := ⟨rfl, rfl⟩
theorem lsMaskCol0 : Statement (.lsMaskCol0) := ⟨rfl, rfl⟩
theorem pfSelect (a : Byte) : Statement (.pfSelect a) := ⟨rfl, rfl⟩
theorem pfRebuild : Statement (.pfRebuild) := ⟨rfl, rfl⟩
theorem pfFinalize : Statement (.pfFinalize) := ⟨rfl, rfl⟩

end Sys2Proof.Laws.SerialLength
end

