-- ==== Sys2Proof/Laws/State.lean ====
section
/-! SUPPORT. One lemma per field per named update of State, each true by rfl, and what the readers of registers and VRAM give
on a state whose line buffer alone was changed. -/

namespace Sys2Proof.Machine

variable (s : State)

/-! ## `setLb` -/

@[simp] theorem setLb_reg (lb : LineBuffer) : (State.setLb s lb).reg = s.reg := rfl
@[simp] theorem setLb_status (lb : LineBuffer) : (State.setLb s lb).status = s.status := rfl
@[simp] theorem setLb_vram (lb : LineBuffer) : (State.setLb s lb).vram = s.vram := rfl
@[simp] theorem setLb_cram (lb : LineBuffer) : (State.setLb s lb).cram = s.cram := rfl
@[simp] theorem setLb_dirty (lb : LineBuffer) : (State.setLb s lb).dirty = s.dirty := rfl
@[simp] theorem setLb_kill (lb : LineBuffer) : (State.setLb s lb).kill = s.kill := rfl
@[simp] theorem setLb_fmt (lb : LineBuffer) : (State.setLb s lb).fmt = s.fmt := rfl
@[simp] theorem setLb_modeChanged (lb : LineBuffer) : (State.setLb s lb).modeChanged = s.modeChanged := rfl
@[simp] theorem setLb_lines (lb : LineBuffer) : (State.setLb s lb).lines = s.lines := rfl
@[simp] theorem setLb_screenOffset (lb : LineBuffer) : (State.setLb s lb).screenOffset = s.screenOffset := rfl
@[simp] theorem setLb_notified (lb : LineBuffer) : (State.setLb s lb).notified = s.notified := rfl
@[simp] theorem setLb_skipCount (lb : LineBuffer) : (State.setLb s lb).skipCount = s.skipCount := rfl
@[simp] theorem setLb_outRow (lb : LineBuffer) : (State.setLb s lb).outRow = s.outRow := rfl
@[simp] theorem setLb_lb (lb : LineBuffer) : (State.setLb s lb).lb = lb := rfl
@[simp] theorem setLb_slot (lb : LineBuffer) : (State.setLb s lb).slot = s.slot := rfl
@[simp] theorem setLb_nslot (lb : LineBuffer) : (State.setLb s lb).nslot = s.nslot := rfl
@[simp] theorem setLb_lut (lb : LineBuffer) : (State.setLb s lb).lut = s.lut := rfl
@[simp] theorem setLb_out (lb : LineBuffer) : (State.setLb s lb).out = s.out := rfl
@[simp] theorem setLb_rebuildCount (lb : LineBuffer) : (State.setLb s lb).rebuildCount = s.rebuildCount := rfl
@[simp] theorem setLb_params (lb : LineBuffer) : (State.setLb s lb).params = s.params := rfl
@[simp] theorem setLb_hookBegin (lb : LineBuffer) : (State.setLb s lb).hookBegin = s.hookBegin := rfl
@[simp] theorem setLb_hookEnd (lb : LineBuffer) : (State.setLb s lb).hookEnd = s.hookEnd := rfl
@[simp] theorem setLb_calls (lb : LineBuffer) : (State.setLb s lb).calls = s.calls := rfl
@[simp] theorem setLb_host (lb : LineBuffer) : (State.setLb s lb).host = s.host := rfl
@[simp] theorem setLb_order (lb : LineBuffer) : (State.setLb s lb).order = s.order := rfl
@[simp] theorem setLb_freeCount (lb : LineBuffer) : (State.setLb s lb).freeCount = s.freeCount := rfl

/-! ## `setHost` -/

@[simp] theorem setHost_reg (h : List HostAction) : (State.setHost s h).reg = s.reg := rfl
@[simp] theorem setHost_status (h : List HostAction) : (State.setHost s h).status = s.status := rfl
@[simp] theorem setHost_vram (h : List HostAction) : (State.setHost s h).vram = s.vram := rfl
@[simp] theorem setHost_cram (h : List HostAction) : (State.setHost s h).cram = s.cram := rfl
@[simp] theorem setHost_dirty (h : List HostAction) : (State.setHost s h).dirty = s.dirty := rfl
@[simp] theorem setHost_kill (h : List HostAction) : (State.setHost s h).kill = s.kill := rfl
@[simp] theorem setHost_fmt (h : List HostAction) : (State.setHost s h).fmt = s.fmt := rfl
@[simp] theorem setHost_modeChanged (h : List HostAction) : (State.setHost s h).modeChanged = s.modeChanged := rfl
@[simp] theorem setHost_lines (h : List HostAction) : (State.setHost s h).lines = s.lines := rfl
@[simp] theorem setHost_screenOffset (h : List HostAction) : (State.setHost s h).screenOffset = s.screenOffset := rfl
@[simp] theorem setHost_notified (h : List HostAction) : (State.setHost s h).notified = s.notified := rfl
@[simp] theorem setHost_skipCount (h : List HostAction) : (State.setHost s h).skipCount = s.skipCount := rfl
@[simp] theorem setHost_outRow (h : List HostAction) : (State.setHost s h).outRow = s.outRow := rfl
@[simp] theorem setHost_lb (h : List HostAction) : (State.setHost s h).lb = s.lb := rfl
@[simp] theorem setHost_slot (h : List HostAction) : (State.setHost s h).slot = s.slot := rfl
@[simp] theorem setHost_nslot (h : List HostAction) : (State.setHost s h).nslot = s.nslot := rfl
@[simp] theorem setHost_lut (h : List HostAction) : (State.setHost s h).lut = s.lut := rfl
@[simp] theorem setHost_out (h : List HostAction) : (State.setHost s h).out = s.out := rfl
@[simp] theorem setHost_rebuildCount (h : List HostAction) : (State.setHost s h).rebuildCount = s.rebuildCount := rfl
@[simp] theorem setHost_params (h : List HostAction) : (State.setHost s h).params = s.params := rfl
@[simp] theorem setHost_hookBegin (h : List HostAction) : (State.setHost s h).hookBegin = s.hookBegin := rfl
@[simp] theorem setHost_hookEnd (h : List HostAction) : (State.setHost s h).hookEnd = s.hookEnd := rfl
@[simp] theorem setHost_calls (h : List HostAction) : (State.setHost s h).calls = s.calls := rfl
@[simp] theorem setHost_host (h : List HostAction) : (State.setHost s h).host = h := rfl
@[simp] theorem setHost_order (h : List HostAction) : (State.setHost s h).order = s.order := rfl
@[simp] theorem setHost_freeCount (h : List HostAction) : (State.setHost s h).freeCount = s.freeCount := rfl

/-! ## `putRow` -/

@[simp] theorem putRow_reg (p : Row) : (State.putRow s p).reg = s.reg := rfl
@[simp] theorem putRow_status (p : Row) : (State.putRow s p).status = s.status := rfl
@[simp] theorem putRow_vram (p : Row) : (State.putRow s p).vram = s.vram := rfl
@[simp] theorem putRow_cram (p : Row) : (State.putRow s p).cram = s.cram := rfl
@[simp] theorem putRow_dirty (p : Row) : (State.putRow s p).dirty = s.dirty := rfl
@[simp] theorem putRow_kill (p : Row) : (State.putRow s p).kill = s.kill := rfl
@[simp] theorem putRow_fmt (p : Row) : (State.putRow s p).fmt = s.fmt := rfl
@[simp] theorem putRow_modeChanged (p : Row) : (State.putRow s p).modeChanged = s.modeChanged := rfl
@[simp] theorem putRow_lines (p : Row) : (State.putRow s p).lines = s.lines := rfl
@[simp] theorem putRow_screenOffset (p : Row) : (State.putRow s p).screenOffset = s.screenOffset := rfl
@[simp] theorem putRow_notified (p : Row) : (State.putRow s p).notified = s.notified := rfl
@[simp] theorem putRow_skipCount (p : Row) : (State.putRow s p).skipCount = s.skipCount := rfl
@[simp] theorem putRow_outRow (p : Row) : (State.putRow s p).outRow = s.outRow := rfl
@[simp] theorem putRow_lb (p : Row) : (State.putRow s p).lb = s.lb := rfl
@[simp] theorem putRow_slot (p : Row) : (State.putRow s p).slot = s.slot := rfl
@[simp] theorem putRow_nslot (p : Row) : (State.putRow s p).nslot = s.nslot := rfl
@[simp] theorem putRow_lut (p : Row) : (State.putRow s p).lut = s.lut := rfl
@[simp] theorem putRow_out (p : Row) : (State.putRow s p).out = writeRow s.out s.outRow p := rfl
@[simp] theorem putRow_rebuildCount (p : Row) : (State.putRow s p).rebuildCount = s.rebuildCount := rfl
@[simp] theorem putRow_params (p : Row) : (State.putRow s p).params = s.params := rfl
@[simp] theorem putRow_hookBegin (p : Row) : (State.putRow s p).hookBegin = s.hookBegin := rfl
@[simp] theorem putRow_hookEnd (p : Row) : (State.putRow s p).hookEnd = s.hookEnd := rfl
@[simp] theorem putRow_calls (p : Row) : (State.putRow s p).calls = s.calls := rfl
@[simp] theorem putRow_host (p : Row) : (State.putRow s p).host = s.host := rfl
@[simp] theorem putRow_order (p : Row) : (State.putRow s p).order = s.order := rfl
@[simp] theorem putRow_freeCount (p : Row) : (State.putRow s p).freeCount = s.freeCount := rfl

/-! ## `called` -/

@[simp] theorem called_reg (c : HostCall) : (State.called s c).reg = s.reg := rfl
@[simp] theorem called_status (c : HostCall) : (State.called s c).status = s.status := rfl
@[simp] theorem called_vram (c : HostCall) : (State.called s c).vram = s.vram := rfl
@[simp] theorem called_cram (c : HostCall) : (State.called s c).cram = s.cram := rfl
@[simp] theorem called_dirty (c : HostCall) : (State.called s c).dirty = s.dirty := rfl
@[simp] theorem called_kill (c : HostCall) : (State.called s c).kill = s.kill := rfl
@[simp] theorem called_fmt (c : HostCall) : (State.called s c).fmt = s.fmt := rfl
@[simp] theorem called_modeChanged (c : HostCall) : (State.called s c).modeChanged = s.modeChanged := rfl
@[simp] theorem called_lines (c : HostCall) : (State.called s c).lines = s.lines := rfl
@[simp] theorem called_screenOffset (c : HostCall) : (State.called s c).screenOffset = s.screenOffset := rfl
@[simp] theorem called_notified (c : HostCall) : (State.called s c).notified = s.notified := rfl
@[simp] theorem called_skipCount (c : HostCall) : (State.called s c).skipCount = s.skipCount := rfl
@[simp] theorem called_outRow (c : HostCall) : (State.called s c).outRow = s.outRow := rfl
@[simp] theorem called_lb (c : HostCall) : (State.called s c).lb = s.lb := rfl
@[simp] theorem called_slot (c : HostCall) : (State.called s c).slot = s.slot := rfl
@[simp] theorem called_nslot (c : HostCall) : (State.called s c).nslot = s.nslot := rfl
@[simp] theorem called_lut (c : HostCall) : (State.called s c).lut = s.lut := rfl
@[simp] theorem called_out (c : HostCall) : (State.called s c).out = s.out := rfl
@[simp] theorem called_rebuildCount (c : HostCall) : (State.called s c).rebuildCount = s.rebuildCount := rfl
@[simp] theorem called_params (c : HostCall) : (State.called s c).params = s.params := rfl
@[simp] theorem called_hookBegin (c : HostCall) : (State.called s c).hookBegin = s.hookBegin := rfl
@[simp] theorem called_hookEnd (c : HostCall) : (State.called s c).hookEnd = s.hookEnd := rfl
@[simp] theorem called_calls (c : HostCall) : (State.called s c).calls = c :: s.calls := rfl
@[simp] theorem called_host (c : HostCall) : (State.called s c).host = s.host := rfl
@[simp] theorem called_order (c : HostCall) : (State.called s c).order = s.order := rfl
@[simp] theorem called_freeCount (c : HostCall) : (State.called s c).freeCount = s.freeCount := rfl

/-! ## `requestSkip` -/

@[simp] theorem requestSkip_reg (r : Nat) : (State.requestSkip s r).reg = s.reg := rfl
@[simp] theorem requestSkip_status (r : Nat) : (State.requestSkip s r).status = s.status := rfl
@[simp] theorem requestSkip_vram (r : Nat) : (State.requestSkip s r).vram = s.vram := rfl
@[simp] theorem requestSkip_cram (r : Nat) : (State.requestSkip s r).cram = s.cram := rfl
@[simp] theorem requestSkip_dirty (r : Nat) : (State.requestSkip s r).dirty = s.dirty := rfl
@[simp] theorem requestSkip_kill (r : Nat) : (State.requestSkip s r).kill = s.kill := rfl
@[simp] theorem requestSkip_fmt (r : Nat) : (State.requestSkip s r).fmt = s.fmt := rfl
@[simp] theorem requestSkip_modeChanged (r : Nat) : (State.requestSkip s r).modeChanged = s.modeChanged := rfl
@[simp] theorem requestSkip_lines (r : Nat) : (State.requestSkip s r).lines = s.lines := rfl
@[simp] theorem requestSkip_screenOffset (r : Nat) : (State.requestSkip s r).screenOffset = s.screenOffset := rfl
@[simp] theorem requestSkip_notified (r : Nat) : (State.requestSkip s r).notified = s.notified := rfl
@[simp] theorem requestSkip_skipCount (r : Nat) : (State.requestSkip s r).skipCount = if 0 < r then r else s.skipCount := rfl
@[simp] theorem requestSkip_outRow (r : Nat) : (State.requestSkip s r).outRow = s.outRow := rfl
@[simp] theorem requestSkip_lb (r : Nat) : (State.requestSkip s r).lb = s.lb := rfl
@[simp] theorem requestSkip_slot (r : Nat) : (State.requestSkip s r).slot = s.slot := rfl
@[simp] theorem requestSkip_nslot (r : Nat) : (State.requestSkip s r).nslot = s.nslot := rfl
@[simp] theorem requestSkip_lut (r : Nat) : (State.requestSkip s r).lut = s.lut := rfl
@[simp] theorem requestSkip_out (r : Nat) : (State.requestSkip s r).out = s.out := rfl
@[simp] theorem requestSkip_rebuildCount (r : Nat) : (State.requestSkip s r).rebuildCount = s.rebuildCount := rfl
@[simp] theorem requestSkip_params (r : Nat) : (State.requestSkip s r).params = s.params := rfl
@[simp] theorem requestSkip_hookBegin (r : Nat) : (State.requestSkip s r).hookBegin = s.hookBegin := rfl
@[simp] theorem requestSkip_hookEnd (r : Nat) : (State.requestSkip s r).hookEnd = s.hookEnd := rfl
@[simp] theorem requestSkip_calls (r : Nat) : (State.requestSkip s r).calls = s.calls := rfl
@[simp] theorem requestSkip_host (r : Nat) : (State.requestSkip s r).host = s.host := rfl
@[simp] theorem requestSkip_order (r : Nat) : (State.requestSkip s r).order = s.order := rfl
@[simp] theorem requestSkip_freeCount (r : Nat) : (State.requestSkip s r).freeCount = s.freeCount := rfl

/-! ## `orStatus` -/

@[simp] theorem orStatus_reg (v : Byte) : (State.orStatus s v).reg = s.reg := rfl
@[simp] theorem orStatus_status (v : Byte) : (State.orStatus s v).status = s.status ||| v := rfl
@[simp] theorem orStatus_vram (v : Byte) : (State.orStatus s v).vram = s.vram := rfl
@[simp] theorem orStatus_cram (v : Byte) : (State.orStatus s v).cram = s.cram := rfl
@[simp] theorem orStatus_dirty (v : Byte) : (State.orStatus s v).dirty = s.dirty := rfl
@[simp] theorem orStatus_kill (v : Byte) : (State.orStatus s v).kill = s.kill := rfl
@[simp] theorem orStatus_fmt (v : Byte) : (State.orStatus s v).fmt = s.fmt := rfl
@[simp] theorem orStatus_modeChanged (v : Byte) : (State.orStatus s v).modeChanged = s.modeChanged := rfl
@[simp] theorem orStatus_lines (v : Byte) : (State.orStatus s v).lines = s.lines := rfl
@[simp] theorem orStatus_screenOffset (v : Byte) : (State.orStatus s v).screenOffset = s.screenOffset := rfl
@[simp] theorem orStatus_notified (v : Byte) : (State.orStatus s v).notified = s.notified := rfl
@[simp] theorem orStatus_skipCount (v : Byte) : (State.orStatus s v).skipCount = s.skipCount := rfl
@[simp] theorem orStatus_outRow (v : Byte) : (State.orStatus s v).outRow = s.outRow := rfl
@[simp] theorem orStatus_lb (v : Byte) : (State.orStatus s v).lb = s.lb := rfl
@[simp] theorem orStatus_slot (v : Byte) : (State.orStatus s v).slot = s.slot := rfl
@[simp] theorem orStatus_nslot (v : Byte) : (State.orStatus s v).nslot = s.nslot := rfl
@[simp] theorem orStatus_lut (v : Byte) : (State.orStatus s v).lut = s.lut := rfl
@[simp] theorem orStatus_out (v : Byte) : (State.orStatus s v).out = s.out := rfl
@[simp] theorem orStatus_rebuildCount (v : Byte) : (State.orStatus s v).rebuildCount = s.rebuildCount := rfl
@[simp] theorem orStatus_params (v : Byte) : (State.orStatus s v).params = s.params := rfl
@[simp] theorem orStatus_hookBegin (v : Byte) : (State.orStatus s v).hookBegin = s.hookBegin := rfl
@[simp] theorem orStatus_hookEnd (v : Byte) : (State.orStatus s v).hookEnd = s.hookEnd := rfl
@[simp] theorem orStatus_calls (v : Byte) : (State.orStatus s v).calls = s.calls := rfl
@[simp] theorem orStatus_host (v : Byte) : (State.orStatus s v).host = s.host := rfl
@[simp] theorem orStatus_order (v : Byte) : (State.orStatus s v).order = s.order := rfl
@[simp] theorem orStatus_freeCount (v : Byte) : (State.orStatus s v).freeCount = s.freeCount := rfl

/-! ## `commitScan` -/

@[simp] theorem commitScan_reg (sl : List Slot) (v : Byte) : (commitScan sl v s).reg = s.reg := rfl
@[simp] theorem commitScan_status (sl : List Slot) (v : Byte) : (commitScan sl v s).status = s.status ||| v ||| collision sl.length := rfl
@[simp] theorem commitScan_vram (sl : List Slot) (v : Byte) : (commitScan sl v s).vram = s.vram := rfl
@[simp] theorem commitScan_cram (sl : List Slot) (v : Byte) : (commitScan sl v s).cram = s.cram := rfl
@[simp] theorem commitScan_dirty (sl : List Slot) (v : Byte) : (commitScan sl v s).dirty = s.dirty := rfl
@[simp] theorem commitScan_kill (sl : List Slot) (v : Byte) : (commitScan sl v s).kill = s.kill := rfl
@[simp] theorem commitScan_fmt (sl : List Slot) (v : Byte) : (commitScan sl v s).fmt = s.fmt := rfl
@[simp] theorem commitScan_modeChanged (sl : List Slot) (v : Byte) : (commitScan sl v s).modeChanged = s.modeChanged := rfl
@[simp] theorem commitScan_lines (sl : List Slot) (v : Byte) : (commitScan sl v s).lines = s.lines := rfl
@[simp] theorem commitScan_screenOffset (sl : List Slot) (v : Byte) : (commitScan sl v s).screenOffset = s.screenOffset := rfl
@[simp] theorem commitScan_notified (sl : List Slot) (v : Byte) : (commitScan sl v s).notified = s.notified := rfl
@[simp] theorem commitScan_skipCount (sl : List Slot) (v : Byte) : (commitScan sl v s).skipCount = s.skipCount := rfl
@[simp] theorem commitScan_outRow (sl : List Slot) (v : Byte) : (commitScan sl v s).outRow = s.outRow := rfl
@[simp] theorem commitScan_lb (sl : List Slot) (v : Byte) : (commitScan sl v s).lb = s.lb := rfl
@[simp] theorem commitScan_slot (sl : List Slot) (v : Byte) : (commitScan sl v s).slot = fillSlots sl s.slot := rfl
@[simp] theorem commitScan_nslot (sl : List Slot) (v : Byte) : (commitScan sl v s).nslot = ⟨min sl.length 8, by omega⟩ := rfl
@[simp] theorem commitScan_lut (sl : List Slot) (v : Byte) : (commitScan sl v s).lut = s.lut := rfl
@[simp] theorem commitScan_out (sl : List Slot) (v : Byte) : (commitScan sl v s).out = s.out := rfl
@[simp] theorem commitScan_rebuildCount (sl : List Slot) (v : Byte) : (commitScan sl v s).rebuildCount = s.rebuildCount := rfl
@[simp] theorem commitScan_params (sl : List Slot) (v : Byte) : (commitScan sl v s).params = s.params := rfl
@[simp] theorem commitScan_hookBegin (sl : List Slot) (v : Byte) : (commitScan sl v s).hookBegin = s.hookBegin := rfl
@[simp] theorem commitScan_hookEnd (sl : List Slot) (v : Byte) : (commitScan sl v s).hookEnd = s.hookEnd := rfl
@[simp] theorem commitScan_calls (sl : List Slot) (v : Byte) : (commitScan sl v s).calls = s.calls := rfl
@[simp] theorem commitScan_host (sl : List Slot) (v : Byte) : (commitScan sl v s).host = s.host := rfl
@[simp] theorem commitScan_order (sl : List Slot) (v : Byte) : (commitScan sl v s).order = s.order := rfl
@[simp] theorem commitScan_freeCount (sl : List Slot) (v : Byte) : (commitScan sl v s).freeCount = s.freeCount := rfl

/-! ## `useFreeColours` -/

@[simp] theorem useFreeColours_reg : (useFreeColours s).reg = s.reg := rfl
@[simp] theorem useFreeColours_status : (useFreeColours s).status = s.status := rfl
@[simp] theorem useFreeColours_vram : (useFreeColours s).vram = s.vram := rfl
@[simp] theorem useFreeColours_cram : (useFreeColours s).cram = s.cram := rfl
@[simp] theorem useFreeColours_dirty : (useFreeColours s).dirty = s.dirty := rfl
@[simp] theorem useFreeColours_kill : (useFreeColours s).kill = s.kill := rfl
@[simp] theorem useFreeColours_fmt : (useFreeColours s).fmt = s.fmt := rfl
@[simp] theorem useFreeColours_modeChanged : (useFreeColours s).modeChanged = s.modeChanged := rfl
@[simp] theorem useFreeColours_lines : (useFreeColours s).lines = s.lines := rfl
@[simp] theorem useFreeColours_screenOffset : (useFreeColours s).screenOffset = s.screenOffset := rfl
@[simp] theorem useFreeColours_notified : (useFreeColours s).notified = s.notified := rfl
@[simp] theorem useFreeColours_skipCount : (useFreeColours s).skipCount = s.skipCount := rfl
@[simp] theorem useFreeColours_outRow : (useFreeColours s).outRow = s.outRow := rfl
@[simp] theorem useFreeColours_lb : (useFreeColours s).lb = s.lb := rfl
@[simp] theorem useFreeColours_slot : (useFreeColours s).slot = s.slot := rfl
@[simp] theorem useFreeColours_nslot : (useFreeColours s).nslot = s.nslot := rfl
@[simp] theorem useFreeColours_lut : (useFreeColours s).lut = s.lut := rfl
@[simp] theorem useFreeColours_out : (useFreeColours s).out = s.out := rfl
@[simp] theorem useFreeColours_rebuildCount : (useFreeColours s).rebuildCount = s.rebuildCount := rfl
@[simp] theorem useFreeColours_params : (useFreeColours s).params = s.params := rfl
@[simp] theorem useFreeColours_hookBegin : (useFreeColours s).hookBegin = s.hookBegin := rfl
@[simp] theorem useFreeColours_hookEnd : (useFreeColours s).hookEnd = s.hookEnd := rfl
@[simp] theorem useFreeColours_calls : (useFreeColours s).calls = s.calls := rfl
@[simp] theorem useFreeColours_host : (useFreeColours s).host = s.host := rfl
@[simp] theorem useFreeColours_order : (useFreeColours s).order = s.order := rfl
@[simp] theorem useFreeColours_freeCount : (useFreeColours s).freeCount = if hasUncoloured s then s.freeCount + 8 else s.freeCount := rfl

/-! ## `backfill` -/

@[simp] theorem backfill_reg : (backfill s).reg = s.reg := rfl
@[simp] theorem backfill_status : (backfill s).status = s.status := rfl
@[simp] theorem backfill_vram : (backfill s).vram = s.vram := rfl
@[simp] theorem backfill_cram : (backfill s).cram = s.cram := rfl
@[simp] theorem backfill_dirty : (backfill s).dirty = s.dirty := rfl
@[simp] theorem backfill_kill : (backfill s).kill = s.kill := rfl
@[simp] theorem backfill_fmt : (backfill s).fmt = s.fmt := rfl
@[simp] theorem backfill_modeChanged : (backfill s).modeChanged = s.modeChanged := rfl
@[simp] theorem backfill_lines : (backfill s).lines = s.lines := rfl
@[simp] theorem backfill_screenOffset : (backfill s).screenOffset = s.screenOffset := rfl
@[simp] theorem backfill_notified : (backfill s).notified = s.notified := rfl
@[simp] theorem backfill_skipCount : (backfill s).skipCount = s.skipCount := rfl
@[simp] theorem backfill_outRow : (backfill s).outRow = s.outRow := rfl
@[simp] theorem backfill_lb : (backfill s).lb = Vector.replicate 304 (backdrop s) := rfl
@[simp] theorem backfill_slot : (backfill s).slot = s.slot := rfl
@[simp] theorem backfill_nslot : (backfill s).nslot = s.nslot := rfl
@[simp] theorem backfill_lut : (backfill s).lut = s.lut := rfl
@[simp] theorem backfill_out : (backfill s).out = s.out := rfl
@[simp] theorem backfill_rebuildCount : (backfill s).rebuildCount = s.rebuildCount := rfl
@[simp] theorem backfill_params : (backfill s).params = s.params := rfl
@[simp] theorem backfill_hookBegin : (backfill s).hookBegin = s.hookBegin := rfl
@[simp] theorem backfill_hookEnd : (backfill s).hookEnd = s.hookEnd := rfl
@[simp] theorem backfill_calls : (backfill s).calls = s.calls := rfl
@[simp] theorem backfill_host : (backfill s).host = s.host := rfl
@[simp] theorem backfill_order : (backfill s).order = s.order := rfl
@[simp] theorem backfill_freeCount : (backfill s).freeCount = s.freeCount := rfl

/-! ## `advanceRow` -/

@[simp] theorem advanceRow_reg : (advanceRow s).reg = s.reg := rfl
@[simp] theorem advanceRow_status : (advanceRow s).status = s.status := rfl
@[simp] theorem advanceRow_vram : (advanceRow s).vram = s.vram := rfl
@[simp] theorem advanceRow_cram : (advanceRow s).cram = s.cram := rfl
@[simp] theorem advanceRow_dirty : (advanceRow s).dirty = s.dirty := rfl
@[simp] theorem advanceRow_kill : (advanceRow s).kill = s.kill := rfl
@[simp] theorem advanceRow_fmt : (advanceRow s).fmt = s.fmt := rfl
@[simp] theorem advanceRow_modeChanged : (advanceRow s).modeChanged = s.modeChanged := rfl
@[simp] theorem advanceRow_lines : (advanceRow s).lines = s.lines := rfl
@[simp] theorem advanceRow_screenOffset : (advanceRow s).screenOffset = s.screenOffset := rfl
@[simp] theorem advanceRow_notified : (advanceRow s).notified = s.notified := rfl
@[simp] theorem advanceRow_skipCount : (advanceRow s).skipCount = s.skipCount := rfl
@[simp] theorem advanceRow_outRow : (advanceRow s).outRow = s.outRow + 1 := rfl
@[simp] theorem advanceRow_lb : (advanceRow s).lb = s.lb := rfl
@[simp] theorem advanceRow_slot : (advanceRow s).slot = s.slot := rfl
@[simp] theorem advanceRow_nslot : (advanceRow s).nslot = s.nslot := rfl
@[simp] theorem advanceRow_lut : (advanceRow s).lut = s.lut := rfl
@[simp] theorem advanceRow_out : (advanceRow s).out = s.out := rfl
@[simp] theorem advanceRow_rebuildCount : (advanceRow s).rebuildCount = s.rebuildCount := rfl
@[simp] theorem advanceRow_params : (advanceRow s).params = s.params := rfl
@[simp] theorem advanceRow_hookBegin : (advanceRow s).hookBegin = s.hookBegin := rfl
@[simp] theorem advanceRow_hookEnd : (advanceRow s).hookEnd = s.hookEnd := rfl
@[simp] theorem advanceRow_calls : (advanceRow s).calls = s.calls := rfl
@[simp] theorem advanceRow_host : (advanceRow s).host = s.host := rfl
@[simp] theorem advanceRow_order : (advanceRow s).order = s.order.lineIssued := rfl
@[simp] theorem advanceRow_freeCount : (advanceRow s).freeCount = s.freeCount := rfl

/-! ## `skippedLine` -/

@[simp] theorem skippedLine_reg : (skippedLine s).reg = s.reg := rfl
@[simp] theorem skippedLine_status : (skippedLine s).status = s.status := rfl
@[simp] theorem skippedLine_vram : (skippedLine s).vram = s.vram := rfl
@[simp] theorem skippedLine_cram : (skippedLine s).cram = s.cram := rfl
@[simp] theorem skippedLine_dirty : (skippedLine s).dirty = s.dirty := rfl
@[simp] theorem skippedLine_kill : (skippedLine s).kill = s.kill := rfl
@[simp] theorem skippedLine_fmt : (skippedLine s).fmt = s.fmt := rfl
@[simp] theorem skippedLine_modeChanged : (skippedLine s).modeChanged = s.modeChanged := rfl
@[simp] theorem skippedLine_lines : (skippedLine s).lines = s.lines := rfl
@[simp] theorem skippedLine_screenOffset : (skippedLine s).screenOffset = s.screenOffset := rfl
@[simp] theorem skippedLine_notified : (skippedLine s).notified = s.notified := rfl
@[simp] theorem skippedLine_skipCount : (skippedLine s).skipCount = s.skipCount - 1 := rfl
@[simp] theorem skippedLine_outRow : (skippedLine s).outRow = s.outRow := rfl
@[simp] theorem skippedLine_lb : (skippedLine s).lb = s.lb := rfl
@[simp] theorem skippedLine_slot : (skippedLine s).slot = s.slot := rfl
@[simp] theorem skippedLine_nslot : (skippedLine s).nslot = s.nslot := rfl
@[simp] theorem skippedLine_lut : (skippedLine s).lut = s.lut := rfl
@[simp] theorem skippedLine_out : (skippedLine s).out = s.out := rfl
@[simp] theorem skippedLine_rebuildCount : (skippedLine s).rebuildCount = s.rebuildCount := rfl
@[simp] theorem skippedLine_params : (skippedLine s).params = s.params := rfl
@[simp] theorem skippedLine_hookBegin : (skippedLine s).hookBegin = s.hookBegin := rfl
@[simp] theorem skippedLine_hookEnd : (skippedLine s).hookEnd = s.hookEnd := rfl
@[simp] theorem skippedLine_calls : (skippedLine s).calls = s.calls := rfl
@[simp] theorem skippedLine_host : (skippedLine s).host = s.host := rfl
@[simp] theorem skippedLine_order : (skippedLine s).order = s.order.lineIssued := rfl
@[simp] theorem skippedLine_freeCount : (skippedLine s).freeCount = s.freeCount := rfl

/-! ## `scanBegin` -/

@[simp] theorem scanBegin_reg (l : Nat) : (scanBegin l s).reg = s.reg := rfl
@[simp] theorem scanBegin_status (l : Nat) : (scanBegin l s).status = s.status := rfl
@[simp] theorem scanBegin_vram (l : Nat) : (scanBegin l s).vram = s.vram := rfl
@[simp] theorem scanBegin_cram (l : Nat) : (scanBegin l s).cram = s.cram := rfl
@[simp] theorem scanBegin_dirty (l : Nat) : (scanBegin l s).dirty = s.dirty := rfl
@[simp] theorem scanBegin_kill (l : Nat) : (scanBegin l s).kill = s.kill := rfl
@[simp] theorem scanBegin_fmt (l : Nat) : (scanBegin l s).fmt = s.fmt := rfl
@[simp] theorem scanBegin_modeChanged (l : Nat) : (scanBegin l s).modeChanged = s.modeChanged := rfl
@[simp] theorem scanBegin_lines (l : Nat) : (scanBegin l s).lines = s.lines := rfl
@[simp] theorem scanBegin_screenOffset (l : Nat) : (scanBegin l s).screenOffset = s.screenOffset := rfl
@[simp] theorem scanBegin_notified (l : Nat) : (scanBegin l s).notified = s.notified := rfl
@[simp] theorem scanBegin_skipCount (l : Nat) : (scanBegin l s).skipCount = if 0 < s.hookBegin then s.hookBegin else s.skipCount := rfl
@[simp] theorem scanBegin_outRow (l : Nat) : (scanBegin l s).outRow = s.outRow := rfl
@[simp] theorem scanBegin_lb (l : Nat) : (scanBegin l s).lb = s.lb := rfl
@[simp] theorem scanBegin_slot (l : Nat) : (scanBegin l s).slot = s.slot := rfl
@[simp] theorem scanBegin_nslot (l : Nat) : (scanBegin l s).nslot = s.nslot := rfl
@[simp] theorem scanBegin_lut (l : Nat) : (scanBegin l s).lut = s.lut := rfl
@[simp] theorem scanBegin_out (l : Nat) : (scanBegin l s).out = s.out := rfl
@[simp] theorem scanBegin_rebuildCount (l : Nat) : (scanBegin l s).rebuildCount = s.rebuildCount := rfl
@[simp] theorem scanBegin_params (l : Nat) : (scanBegin l s).params = s.params := rfl
@[simp] theorem scanBegin_hookBegin (l : Nat) : (scanBegin l s).hookBegin = s.hookBegin := rfl
@[simp] theorem scanBegin_hookEnd (l : Nat) : (scanBegin l s).hookEnd = s.hookEnd := rfl
@[simp] theorem scanBegin_calls (l : Nat) : (scanBegin l s).calls = .scanBegin l :: s.calls := rfl
@[simp] theorem scanBegin_host (l : Nat) : (scanBegin l s).host = s.host := rfl
@[simp] theorem scanBegin_order (l : Nat) : (scanBegin l s).order = s.order := rfl
@[simp] theorem scanBegin_freeCount (l : Nat) : (scanBegin l s).freeCount = s.freeCount := rfl

/-! ## `scanEnd` -/

@[simp] theorem scanEnd_reg (l : Nat) : (scanEnd l s).reg = s.reg := rfl
@[simp] theorem scanEnd_status (l : Nat) : (scanEnd l s).status = s.status := rfl
@[simp] theorem scanEnd_vram (l : Nat) : (scanEnd l s).vram = s.vram := rfl
@[simp] theorem scanEnd_cram (l : Nat) : (scanEnd l s).cram = s.cram := rfl
@[simp] theorem scanEnd_dirty (l : Nat) : (scanEnd l s).dirty = s.dirty := rfl
@[simp] theorem scanEnd_kill (l : Nat) : (scanEnd l s).kill = s.kill := rfl
@[simp] theorem scanEnd_fmt (l : Nat) : (scanEnd l s).fmt = s.fmt := rfl
@[simp] theorem scanEnd_modeChanged (l : Nat) : (scanEnd l s).modeChanged = s.modeChanged := rfl
@[simp] theorem scanEnd_lines (l : Nat) : (scanEnd l s).lines = s.lines := rfl
@[simp] theorem scanEnd_screenOffset (l : Nat) : (scanEnd l s).screenOffset = s.screenOffset := rfl
@[simp] theorem scanEnd_notified (l : Nat) : (scanEnd l s).notified = s.notified := rfl
@[simp] theorem scanEnd_skipCount (l : Nat) : (scanEnd l s).skipCount = if 0 < s.hookEnd then s.hookEnd else s.skipCount := rfl
@[simp] theorem scanEnd_outRow (l : Nat) : (scanEnd l s).outRow = s.outRow := rfl
@[simp] theorem scanEnd_lb (l : Nat) : (scanEnd l s).lb = s.lb := rfl
@[simp] theorem scanEnd_slot (l : Nat) : (scanEnd l s).slot = s.slot := rfl
@[simp] theorem scanEnd_nslot (l : Nat) : (scanEnd l s).nslot = s.nslot := rfl
@[simp] theorem scanEnd_lut (l : Nat) : (scanEnd l s).lut = s.lut := rfl
@[simp] theorem scanEnd_out (l : Nat) : (scanEnd l s).out = s.out := rfl
@[simp] theorem scanEnd_rebuildCount (l : Nat) : (scanEnd l s).rebuildCount = s.rebuildCount := rfl
@[simp] theorem scanEnd_params (l : Nat) : (scanEnd l s).params = s.params := rfl
@[simp] theorem scanEnd_hookBegin (l : Nat) : (scanEnd l s).hookBegin = s.hookBegin := rfl
@[simp] theorem scanEnd_hookEnd (l : Nat) : (scanEnd l s).hookEnd = s.hookEnd := rfl
@[simp] theorem scanEnd_calls (l : Nat) : (scanEnd l s).calls = .scanEnd l :: s.calls := rfl
@[simp] theorem scanEnd_host (l : Nat) : (scanEnd l s).host = s.host := rfl
@[simp] theorem scanEnd_order (l : Nat) : (scanEnd l s).order = s.order := rfl
@[simp] theorem scanEnd_freeCount (l : Nat) : (scanEnd l s).freeCount = s.freeCount := rfl

/-! ## Readers after a change of the line buffer alone -/

@[simp] theorem vlock_setLb (lb : LineBuffer) : vlock (s.setLb lb) = vlock s := rfl
@[simp] theorem hlock_setLb (lb : LineBuffer) : hlock (s.setLb lb) = hlock s := rfl
@[simp] theorem mask0_setLb (lb : LineBuffer) : mask0 (s.setLb lb) = mask0 s := rfl
@[simp] theorem sshift_setLb (lb : LineBuffer) : sshift (s.setLb lb) = sshift s := rfl
@[simp] theorem mode4_setLb (lb : LineBuffer) : mode4 (s.setLb lb) = mode4 s := rfl
@[simp] theorem bitM2_setLb (lb : LineBuffer) : bitM2 (s.setLb lb) = bitM2 s := rfl
@[simp] theorem disp_setLb (lb : LineBuffer) : disp (s.setLb lb) = disp s := rfl
@[simp] theorem bitM1_setLb (lb : LineBuffer) : bitM1 (s.setLb lb) = bitM1 s := rfl
@[simp] theorem bitM3_setLb (lb : LineBuffer) : bitM3 (s.setLb lb) = bitM3 s := rfl
@[simp] theorem sprSize_setLb (lb : LineBuffer) : sprSize (s.setLb lb) = sprSize s := rfl
@[simp] theorem zoom_setLb (lb : LineBuffer) : zoom (s.setLb lb) = zoom s := rfl
@[simp] theorem killBg_setLb (lb : LineBuffer) : killBg (s.setLb lb) = killBg s := rfl
@[simp] theorem killSpr_setLb (lb : LineBuffer) : killSpr (s.setLb lb) = killSpr s := rfl
@[simp] theorem killFg_setLb (lb : LineBuffer) : killFg (s.setLb lb) = killFg s := rfl
@[simp] theorem frameGeometry_setLb (lb : LineBuffer) : frameGeometry (s.setLb lb) = frameGeometry s := rfl
@[simp] theorem tallMode_setLb (lb : LineBuffer) : tallMode (s.setLb lb) = tallMode s := rfl
@[simp] theorem nameBase4_setLb (lb : LineBuffer) : nameBase4 (s.setLb lb) = nameBase4 s := rfl
@[simp] theorem nameBase2_setLb (lb : LineBuffer) : nameBase2 (s.setLb lb) = nameBase2 s := rfl
@[simp] theorem colourBase2_setLb (lb : LineBuffer) : colourBase2 (s.setLb lb) = colourBase2 s := rfl
@[simp] theorem patternBase2_setLb (lb : LineBuffer) : patternBase2 (s.setLb lb) = patternBase2 s := rfl
@[simp] theorem satBase4_setLb (lb : LineBuffer) : satBase4 (s.setLb lb) = satBase4 s := rfl
@[simp] theorem satBase2_setLb (lb : LineBuffer) : satBase2 (s.setLb lb) = satBase2 s := rfl
@[simp] theorem sprBase4_setLb (lb : LineBuffer) : sprBase4 (s.setLb lb) = sprBase4 s := rfl
@[simp] theorem sprBase2_setLb (lb : LineBuffer) : sprBase2 (s.setLb lb) = sprBase2 s := rfl
@[simp] theorem backdrop_setLb (lb : LineBuffer) : backdrop (s.setLb lb) = backdrop s := rfl
@[simp] theorem zoomShift_setLb (lb : LineBuffer) : zoomShift (s.setLb lb) = zoomShift s := rfl
@[simp] theorem sprHeight_setLb (lb : LineBuffer) : sprHeight (s.setLb lb) = sprHeight s := rfl
@[simp] theorem nameMask4_setLb (lb : LineBuffer) : nameMask4 (s.setLb lb) = nameMask4 s := rfl
@[simp] theorem nameMask2_setLb (lb : LineBuffer) : nameMask2 (s.setLb lb) = nameMask2 s := rfl
@[simp] theorem hasUncoloured_setLb (lb : LineBuffer) : hasUncoloured (s.setLb lb) = hasUncoloured s := rfl
@[simp] theorem drawOrder_setLb (lb : LineBuffer) : drawOrder (s.setLb lb) = drawOrder s := rfl
@[simp] theorem halfWidth_setLb (lb : LineBuffer) : halfWidth (s.setLb lb) = halfWidth s := rfl
@[simp] theorem liveGeometry_setLb (lb : LineBuffer) : liveGeometry (s.setLb lb) = liveGeometry s := rfl
@[simp] theorem vread8_setLb (lb : LineBuffer) (a : Nat) : vread8 (s.setLb lb) a = vread8 s a := rfl
@[simp] theorem vread16_setLb (lb : LineBuffer) (a : Nat) : vread16 (s.setLb lb) a = vread16 s a := rfl
@[simp] theorem vread32_setLb (lb : LineBuffer) (a : Nat) : vread32 (s.setLb lb) a = vread32 s a := rfl
@[simp] theorem sprY4_setLb (lb : LineBuffer) (a : Nat) : sprY4 (s.setLb lb) a = sprY4 s a := rfl
@[simp] theorem sprRawY2_setLb (lb : LineBuffer) (a : Nat) : sprRawY2 (s.setLb lb) a = sprRawY2 s a := rfl
@[simp] theorem stop4_setLb (lb : LineBuffer) (a : Nat) : stop4 (s.setLb lb) a = stop4 s a := rfl
@[simp] theorem stop2_setLb (lb : LineBuffer) (a : Nat) : stop2 (s.setLb lb) a = stop2 s a := rfl
@[simp] theorem slotAt_setLb (lb : LineBuffer) (a : Nat) : slotAt (s.setLb lb) a = slotAt s a := rfl
@[simp] theorem slotColour_setLb (lb : LineBuffer) (a : Nat) : slotColour (s.setLb lb) a = slotColour s a := rfl
@[simp] theorem vline_setLb (lb : LineBuffer) (a : Nat) : vline (s.setLb lb) a = vline s a := rfl
@[simp] theorem hscroll_setLb (lb : LineBuffer) (a : Nat) : hscroll (s.setLb lb) a = hscroll s a := rfl
@[simp] theorem scrollOf_setLb (lb : LineBuffer) (a : Nat) : scrollOf (s.setLb lb) a = scrollOf s a := rfl
@[simp] theorem sourceColour_setLb (lb : LineBuffer) (a : Nat) : sourceColour (s.setLb lb) a = sourceColour s a := rfl
@[simp] theorem hit4_setLb (lb : LineBuffer) (l a : Nat) : hit4 (s.setLb lb) l a = hit4 s l a := rfl
@[simp] theorem hit2_setLb (lb : LineBuffer) (l a : Nat) : hit2 (s.setLb lb) l a = hit2 s l a := rfl
@[simp] theorem slot4_setLb (lb : LineBuffer) (l a : Nat) : slot4 (s.setLb lb) l a = slot4 s l a := rfl
@[simp] theorem slot2_setLb (lb : LineBuffer) (l a : Nat) : slot2 (s.setLb lb) l a = slot2 s l a := rfl
@[simp] theorem walk4_setLb (lb : LineBuffer) (a : Nat) : walk4 (s.setLb lb) a = walk4 s a := rfl
@[simp] theorem walk2_setLb (lb : LineBuffer) (a : Nat) : walk2 (s.setLb lb) a = walk2 s a := rfl
@[simp] theorem columnCode_setLb (lb : LineBuffer) (row col k : Nat) :
    columnCode (s.setLb lb) row col k = columnCode s row col k := rfl

/-- Two changes of the line buffer: the second one stands. -/
@[simp] theorem setLb_setLb (l m : LineBuffer) : (s.setLb l).setLb m = s.setLb m := rfl

/-- Putting a state's own line buffer back changes nothing. -/
@[simp] theorem setLb_self : s.setLb s.lb = s := rfl

end Sys2Proof.Machine
end

