-- ==== Sys2Proof/Laws/Ops.lean ====
section
/-! SUPPORT. The laws of the shared operations of Machine/Ops.lean: sequencing, VRAM and its canonical form, output rows, the
line buffer. One lemma says all an operation can do; later proofs cite it instead of unfolding. -/

namespace Sys2Proof.Machine

/-! ## Sequencing -/

@[simp] theorem andThen_next (s : State) (f : State → Result) : andThen (.next s) f = f s := rfl
@[simp] theorem andThen_refused (r : Refusal) (f : State → Result) : andThen (.refused r) f = .refused r := rfl
@[simp] theorem forEach_nil {α : Type} (f : α → State → Result) (s : State) : forEach f [] s = .next s := rfl
@[simp] theorem forEach_cons {α : Type} (f : α → State → Result) (a : α) (l : List α) (s : State) :
    forEach f (a :: l) s = andThen (f a s) (forEach f l) := rfl

/-- A sequence answers a next state exactly when both its parts do, one after the other. -/
theorem andThen_eq_next {r : Result} {f : State → Result} {t : State} :
    andThen r f = .next t ↔ ∃ u, r = .next u ∧ f u = .next t := by
  cases r with
  | next s => simp [andThen]
  | fault e => cases e
  | refused e => simp [andThen]

/-- A loop over a joined list is the two loops in a row. -/
theorem forEach_append {α : Type} (f : α → State → Result) (l m : List α) (s : State) :
    forEach f (l ++ m) s = andThen (forEach f l s) (forEach f m) := by
  induction l generalizing s with
  | nil => rfl
  | cons a l ih =>
    simp only [List.cons_append, forEach_cons]
    cases f a s with
    | next u => simpa using ih u
    | fault e => cases e
    | refused e => rfl

/-- A loop whose body completes and keeps `P` completes and keeps `P`. -/
theorem forEach_completes {α : Type} {f : α → State → Result} {P : State → Prop} {l : List α}
    (body : ∀ a ∈ l, ∀ s, P s → ∃ t, f a s = .next t ∧ P t) {s : State} (hs : P s) :
    ∃ t, forEach f l s = .next t ∧ P t := by
  induction l generalizing s with
  | nil => exact ⟨s, rfl, hs⟩
  | cons a l ih =>
    obtain ⟨u, hu, pu⟩ := body a (by simp) s hs
    obtain ⟨t, ht, pt⟩ := ih (fun b hb => body b (by simp [hb])) pu
    exact ⟨t, by simp [hu, ht], pt⟩

/-- What every pass of a loop's body keeps, the loop keeps. -/
theorem forEach_keeps {α : Type} {f : α → State → Result} {P : State → Prop} {l : List α}
    (body : ∀ a ∈ l, ∀ s t, f a s = .next t → P s → P t) {s t : State}
    (h : forEach f l s = .next t) (hs : P s) : P t := by
  induction l generalizing s with
  | nil => simp only [forEach_nil, Host.Outcome.next.injEq] at h; exact h ▸ hs
  | cons a l ih =>
    obtain ⟨u, hu, ht⟩ := andThen_eq_next.1 h
    exact ih (fun b hb => body b (by simp [hb])) ht (body a (by simp) s u hu hs)

@[simp] theorem tabulate_getElem {α : Type} (n : Nat) (f : Nat → α) (i : Nat) (h : i < n) :
    (tabulate n f)[i] = f i := by
  simp [tabulate]

/-! ## VRAM -/

theorem Memory.wfFrom_mono {lo lo' : Nat} (h : lo' ≤ lo) {m : Memory} (hm : Memory.wfFrom lo m = true) :
    Memory.wfFrom lo' m = true := by
  cases m with
  | nil => rfl
  | cons c m =>
    obtain ⟨k, b⟩ := c
    simp only [Memory.wfFrom, Bool.and_eq_true, decide_eq_true_eq] at hm ⊢
    exact ⟨⟨⟨h.trans hm.1.1.1, hm.1.1.2⟩, hm.1.2⟩, hm.2⟩

/-- A canonical memory lists nothing below its bound. -/
theorem Memory.read_below {lo : Nat} {m : Memory} (hm : Memory.wfFrom lo m = true) {a : Nat} (h : a < lo) :
    Memory.read m a = Memory.unlisted := by
  induction m generalizing lo with
  | nil => rfl
  | cons c m ih =>
    obtain ⟨k, b⟩ := c
    simp only [Memory.wfFrom, Bool.and_eq_true, decide_eq_true_eq] at hm
    have hk : k ≠ a := by omega
    simp only [Memory.read, if_neg hk]
    exact ih hm.2 (by omega)

/-- A write keeps the canonical form. -/
theorem Memory.wfFrom_write {lo : Nat} {m : Memory} (hm : Memory.wfFrom lo m = true) {a : Nat}
    (h : lo ≤ a) (ha : a < 0x4000) (v : Byte) : Memory.wfFrom lo (Memory.write m a v) = true := by
  induction m generalizing lo with
  | nil =>
    by_cases hv : v = Memory.unlisted
    · simp [Memory.write, Memory.wfFrom, hv]
    · simp [Memory.write, Memory.wfFrom, hv, h, ha]
  | cons c m ih =>
    obtain ⟨k, b⟩ := c
    simp only [Memory.wfFrom, Bool.and_eq_true, decide_eq_true_eq] at hm
    obtain ⟨⟨⟨h1, h2⟩, h3⟩, h4⟩ := hm
    simp only [Memory.write]
    split
    · simp only [Memory.wfFrom, Bool.and_eq_true, decide_eq_true_eq]
      exact ⟨⟨⟨h1, h2⟩, h3⟩, ih h4 (by omega)⟩
    · split
      · split
        · exact Memory.wfFrom_mono (by omega) h4
        · subst k
          simp only [Memory.wfFrom, Bool.and_eq_true, decide_eq_true_eq]
          exact ⟨⟨⟨h1, h2⟩, ‹_›⟩, h4⟩
      · split
        · simp only [Memory.wfFrom, Bool.and_eq_true, decide_eq_true_eq]
          exact ⟨⟨⟨h1, h2⟩, h3⟩, h4⟩
        · simp only [Memory.wfFrom, Bool.and_eq_true, decide_eq_true_eq]
          exact ⟨⟨⟨h, ha⟩, ‹_›⟩, ⟨⟨by omega, h2⟩, h3⟩, h4⟩

/-- A write keeps the canonical form of VRAM. -/
theorem Memory.wf_write {m : Memory} (hm : m.wf = true) {a : Nat} (ha : a < 0x4000) (v : Byte) :
    (m.write a v).wf = true := Memory.wfFrom_write hm (Nat.zero_le _) ha v

/-- Consecutive writes keep the canonical form of VRAM. -/
theorem Memory.wf_writeBytes {m : Memory} (hm : m.wf = true) (a : Nat) (bs : List Byte) :
    (m.writeBytes a bs).wf = true := by
  induction bs generalizing m a with
  | nil => exact hm
  | cons b bs ih => exact ih (Memory.wf_write hm (Nat.mod_lt _ (by decide)) b) _

/-- Where a list is canonical from `lo` up, reading after a write at or above `lo` gives the byte written there and the old byte
elsewhere. -/
theorem Memory.read_writeFrom {lo : Nat} {m : Memory} (hm : Memory.wfFrom lo m = true) {a : Nat}
    (v : Byte) (x : Nat) : Memory.read (Memory.write m a v) x = if a = x then v else Memory.read m x := by
  induction m generalizing lo with
  | nil =>
    by_cases hv : v = Memory.unlisted
    · simp [Memory.write, Memory.read, hv]
    · simp [Memory.write, Memory.read, hv]
  | cons c m ih =>
    obtain ⟨k, b⟩ := c
    simp only [Memory.wfFrom, Bool.and_eq_true, decide_eq_true_eq] at hm
    obtain ⟨-, h4⟩ := hm
    have hlow : ∀ y, y < k + 1 → Memory.read m y = Memory.unlisted := fun y hy => Memory.read_below h4 hy
    simp only [Memory.write]
    split
    · simp only [Memory.read, ih h4]
      split <;> split <;> first | rfl | omega
    · split
      · subst k
        split
        · simp only [Memory.read]
          split
          · subst x; rw [hlow a (by omega), ‹v = _›]
          · rfl
        · simp only [Memory.read]
          split <;> rfl
      · split
        · simp only [Memory.read]
          split
          · split
            · omega
            · rfl
          · split
            · subst x; rw [hlow a (by omega), ‹v = _›]
            · rfl
        · simp only [Memory.read]

/-! ## Output rows -/

/-- Reading a row after a row is written: the row written, and every other as before. -/
theorem readRow_writeRow (rows : List (Nat × Row)) (r : Nat) (p : Row) (x : Nat) :
    readRow (writeRow rows r p) x = if r = x then some p else readRow rows x := by
  induction rows with
  | nil => simp [writeRow, readRow]
  | cons c rows ih =>
    obtain ⟨k, q⟩ := c
    simp only [writeRow]
    split
    · simp only [readRow, ih]
      split <;> split <;> first | rfl | omega
    · split
      · subst k
        simp only [readRow]
        split <;> rfl
      · simp only [readRow]

theorem rowsWfFrom_mono {lo lo' : Nat} (h : lo' ≤ lo) {rows : List (Nat × Row)} (hr : rowsWfFrom lo rows = true) :
    rowsWfFrom lo' rows = true := by
  cases rows with
  | nil => rfl
  | cons c rows =>
    obtain ⟨k, q⟩ := c
    simp only [rowsWfFrom, Bool.and_eq_true, decide_eq_true_eq] at hr ⊢
    exact ⟨h.trans hr.1, hr.2⟩

theorem rowsWfFrom_writeRow {lo : Nat} {rows : List (Nat × Row)} (hr : rowsWfFrom lo rows = true) {r : Nat}
    (h : lo ≤ r) (p : Row) : rowsWfFrom lo (writeRow rows r p) = true := by
  induction rows generalizing lo with
  | nil => simp [writeRow, rowsWfFrom, h]
  | cons c rows ih =>
    obtain ⟨k, q⟩ := c
    simp only [rowsWfFrom, Bool.and_eq_true, decide_eq_true_eq] at hr
    simp only [writeRow]
    split
    · simp only [rowsWfFrom, Bool.and_eq_true, decide_eq_true_eq]
      exact ⟨hr.1, ih hr.2 (by omega)⟩
    · split
      · subst k
        simp only [rowsWfFrom, Bool.and_eq_true, decide_eq_true_eq]
        exact ⟨h, hr.2⟩
      · simp only [rowsWfFrom, Bool.and_eq_true, decide_eq_true_eq]
        exact ⟨h, by omega, hr.2⟩

/-- Writing a row keeps the canonical form of `OUT`. -/
theorem rowsWf_writeRow {rows : List (Nat × Row)} (hr : rowsWf rows = true) (r : Nat) (p : Row) :
    rowsWf (writeRow rows r p) = true := rowsWfFrom_writeRow hr (Nat.zero_le _) p

/-! ## The line buffer -/

/-- Every byte of the line buffer after a draw: inside the drawn range the pixel where there is one, else the old byte. -/
theorem drawPixels_getElem (lb : LineBuffer) (sx w : Nat) (px : Nat → Option Byte) (i : Nat) (hi : i < 304) :
    (drawPixels lb sx w px)[i] = if sx ≤ i ∧ i < sx + w then (px (i - sx)).getD lb[i] else lb[i] := by
  induction w with
  | zero => simp [drawPixels]
  | succ w ih =>
    have step : drawPixels lb sx (w + 1) px = drawPixel (drawPixels lb sx w px) (sx + w) (px w) := by
      simp [drawPixels, List.range_succ]
    rw [step]
    cases hp : px w with
    | none =>
      simp only [drawPixel, ih]
      by_cases h : i = sx + w
      · subst h
        simp [hp]
      · have : (sx ≤ i ∧ i < sx + w) ↔ (sx ≤ i ∧ i < sx + (w + 1)) := by omega
        simp only [this]
    | some v =>
      simp only [drawPixel, lbWrite, Vector.getElem_setIfInBounds]
      by_cases h : sx + w = i
      · subst h
        simp [hp]
      · have : (sx ≤ i ∧ i < sx + w) ↔ (sx ≤ i ∧ i < sx + (w + 1)) := by omega
        simp only [if_neg h, ih, this]

end Sys2Proof.Machine
end

