-- ==== Sys2Proof/Laws/Drawing.lean ====
section
/-! SUPPORT. What the decoder's one effect, the sprite walk and the slot file do: one lemma for each shared operation of
Machine/TileDecoder.lean and Machine/SpriteScanner.lean. -/

namespace Sys2Proof.Machine

/-! ## `tdDraw` -/

/-- A draw answers a next state exactly when its range lies in the line buffer, and then only the line buffer changes. -/
theorem tdDraw_eq_next {sx : Int} {w : Nat} {px : Nat → Option Byte} {s t : State} :
    tdDraw sx w px s = .next t ↔
      (0 ≤ sx ∧ sx + w ≤ 304) ∧ t = s.setLb (drawPixels s.lb sx.toNat w px) := by
  unfold tdDraw
  by_cases h : 0 ≤ sx ∧ sx + w ≤ 304
  · rw [if_pos h, Host.Outcome.next.injEq, eq_comm]
    exact ⟨fun e => ⟨h, e⟩, fun e => e.2⟩
  · rw [if_neg h]
    exact ⟨fun e => (nomatch e), fun e => absurd e.1 h⟩

/-- A draw whose range lies in the line buffer completes. -/
theorem tdDraw_completes {sx : Int} {w : Nat} (h : 0 ≤ sx ∧ sx + w ≤ 304) (px : Nat → Option Byte) (s : State) :
    tdDraw sx w px s = .next (s.setLb (drawPixels s.lb sx.toNat w px)) := if_pos h

/-- A draw only changes the line buffer. -/
theorem tdDraw_frame {sx : Int} {w : Nat} {px : Nat → Option Byte} {s t : State} (h : tdDraw sx w px s = .next t) :
    t = s.setLb t.lb := by
  rw [(tdDraw_eq_next.1 h).2]; rfl

/-- A draw at a natural offset, byte by byte. -/
theorem tdDraw_getElem {sx w : Nat} {px : Nat → Option Byte} {s t : State} (h : tdDraw sx w px s = .next t)
    (i : Nat) (hi : i < 304) :
    t.lb[i] = if sx ≤ i ∧ i < sx + w then (px (i - sx)).getD s.lb[i] else s.lb[i] := by
  have ht := (tdDraw_eq_next.1 h).2
  subst ht
  simpa using drawPixels_getElem s.lb sx w px i hi

/-- A loop whose body only changes the line buffer only changes the line buffer. -/
theorem forEach_frame {α : Type} {f : α → State → Result} {l : List α}
    (body : ∀ a ∈ l, ∀ s t, f a s = .next t → t = s.setLb t.lb) {s t : State} (h : forEach f l s = .next t) :
    t = s.setLb t.lb := by
  induction l generalizing s with
  | nil => simp only [forEach_nil, Host.Outcome.next.injEq] at h; subst h; rfl
  | cons a l ih =>
    obtain ⟨u, hu, ht⟩ := andThen_eq_next.1 h
    have hau := body a (by simp) s u hu
    have htu := ih (fun b hb => body b (by simp [hb])) ht
    rw [htu, hau]; rfl

/-! ## The sprite walk (R110, R112) -/

/-- The walk in closed form: of the entries before the first stopping one, those that are hit, cut at the capacity; the entry
met beyond the capacity, if there is one, is the next of them. -/
theorem walk_eq (cap : Nat) (stop hit : Nat → Bool) (mk : Nat → Slot) (is : List Nat) (acc : List Slot)
    (hacc : acc.length ≤ cap) :
    walk cap stop hit mk is acc
      = (acc ++ (((is.takeWhile (fun i => !stop i)).filter hit).take (cap - acc.length)).map mk,
         ((is.takeWhile (fun i => !stop i)).filter hit)[cap - acc.length]?) := by
  induction is generalizing acc with
  | nil => simp [walk]
  | cons i is ih =>
    by_cases hs : stop i = true
    · simp [walk, hs]
    · by_cases hh : hit i = true
      · by_cases hc : acc.length = cap
        · simp [walk, hs, hh, hc]
        · have hlt : acc.length + 1 ≤ cap := by omega
          have hsub : cap - acc.length = (cap - (acc.length + 1)) + 1 := by omega
          have := ih (acc ++ [mk i]) (by simpa using hlt)
          simp only [List.length_append, List.length_cons, List.length_nil, Nat.zero_add] at this
          simp [walk, hs, hh, hc, this, hsub]
      · simp [walk, hs, hh, ih acc hacc]

/-- The slots of a mode-4 walk and its overflowing entry. -/
theorem walk4_eq (s : State) (line : Nat) :
    walk4 s line
      = (((((List.range 64).takeWhile (fun i => !stop4 s i)).filter (hit4 s line)).take 8).map (slot4 s line),
         (((List.range 64).takeWhile (fun i => !stop4 s i)).filter (hit4 s line))[8]?) := by
  simpa [walk4] using walk_eq 8 (stop4 s) (hit4 s line) (slot4 s line) (List.range 64) [] (by simp)

/-- The slots of a mode-2 walk and its overflowing entry. -/
theorem walk2_eq (s : State) (line : Nat) :
    walk2 s line
      = (((((List.range 32).takeWhile (fun i => !stop2 s i)).filter (hit2 s line)).take 4).map (slot2 s line),
         (((List.range 32).takeWhile (fun i => !stop2 s i)).filter (hit2 s line))[4]?) := by
  simpa [walk2] using walk_eq 4 (stop2 s) (hit2 s line) (slot2 s line) (List.range 32) [] (by simp)

/-- A slot below the number collected is the slot collected there. -/
theorem fillSlots_getElem {slots : List Slot} (old : Vector Slot 8) {k : Nat} (h : k < slots.length) (h8 : k < 8) :
    (fillSlots slots old)[k] = slots[k] := by
  simp [fillSlots, List.getElem?_eq_getElem h]

/-- A slot from the number collected on keeps what it held. -/
theorem fillSlots_getElem_ge {slots : List Slot} (old : Vector Slot 8) {k : Nat} (h : slots.length ≤ k) (h8 : k < 8) :
    (fillSlots slots old)[k] = old[k] := by
  simp [fillSlots, List.getElem?_eq_none h, h8]

/-- The x of a mode-4 slot lies in 0..263 (R221). -/
theorem slot4_x_range (s : State) (line i : Nat) : 0 ≤ (slot4 s line i).x ∧ (slot4 s line i).x ≤ 263 := by
  have := (vread8 s (satBase4 s + 0x80 + 2 * i)).isLt
  simp only [slot4]
  split <;> omega

/-- The x of a mode-2 slot lies in -24..263 (R11, R221). -/
theorem slot2_x_range (s : State) (line i : Nat) : -24 ≤ (slot2 s line i).x ∧ (slot2 s line i).x ≤ 263 := by
  have := (vread8 s (satBase2 s + 4 * i + 1)).isLt
  simp only [slot2]
  split <;> omega

end Sys2Proof.Machine
end

