-- ==== Sys2Proof/Laws/Units.lean ====
section
/-! SUPPORT. What the shared operations of the units can do: when they answer a next state, and what that state keeps. Later
proofs cite these instead of unfolding a strip, a draw, a display or a line. -/

namespace Sys2Proof.Machine

/-! ## Strips -/

/-- A column of the low pass only changes the line buffer. -/
theorem lowColumn_frame {row dx col ty k : Nat} {s t : State} (h : lowColumn row dx col ty k s = .next t) :
    t = s.setLb t.lb := by
  unfold lowColumn at h
  split at h
  · cases h; rfl
  · split at h <;> exact tdDraw_frame h

/-- A column of the high pass only changes the line buffer. -/
theorem highColumn_frame {row dx col ty k : Nat} {s t : State} (h : highColumn row dx col ty k s = .next t) :
    t = s.setLb t.lb := by
  unfold highColumn at h
  split at h
  · cases h; rfl
  · split at h
    · cases h; rfl
    · split at h <;> exact tdDraw_frame h

/-- A column whose eight bytes lie in the line buffer completes. -/
theorem lowColumn_completes {row dx col ty k : Nat} (h : dx + 8 * k + 8 ≤ 304) (s : State) :
    ∃ t, lowColumn row dx col ty k s = .next t := by
  unfold lowColumn
  split
  · exact ⟨s, rfl⟩
  · split <;> exact ⟨_, tdDraw_completes (by omega) _ s⟩

/-- A column whose eight bytes lie in the line buffer completes. -/
theorem highColumn_completes {row dx col ty k : Nat} (h : dx + 8 * k + 8 ≤ 304) (s : State) :
    ∃ t, highColumn row dx col ty k s = .next t := by
  unfold highColumn
  split
  · exact ⟨s, rfl⟩
  · split
    · exact ⟨s, rfl⟩
    · split <;> exact ⟨_, tdDraw_completes (by omega) _ s⟩

/-- A strip answers a next state only inside the ranges of R70, and then it is its columns in order. -/
theorem strip_eq_next {column : Nat → State → Result} {dx n : Nat} {s t : State} :
    strip column dx n s = .next t ↔ (n ≤ 33 ∧ dx + 8 * n ≤ 304) ∧ forEach column (List.range n) s = .next t := by
  unfold strip
  split
  · simp only [*, and_self, true_and]
  · exact ⟨fun e => (nomatch e), fun e => absurd e.1 ‹_›⟩

/-- A low strip only changes the line buffer. -/
theorem lowStrip_frame {row dx n col ty : Nat} {s t : State} (h : lowStrip row dx n col ty s = .next t) :
    t = s.setLb t.lb :=
  forEach_frame (fun _ _ _ _ => lowColumn_frame) (strip_eq_next.1 h).2

/-- A high strip only changes the line buffer. -/
theorem highStrip_frame {row dx n col ty : Nat} {s t : State} (h : highStrip row dx n col ty s = .next t) :
    t = s.setLb t.lb :=
  forEach_frame (fun _ _ _ _ => highColumn_frame) (strip_eq_next.1 h).2

/-- A loop whose body always completes completes. -/
theorem forEach_total {α : Type} {f : α → State → Result} {l : List α}
    (body : ∀ a ∈ l, ∀ s, ∃ t, f a s = .next t) (s : State) : ∃ t, forEach f l s = .next t := by
  obtain ⟨t, ht, -⟩ := forEach_completes (P := fun _ => True)
    (fun a ha u _ => (body a ha u).imp (fun t ht => ⟨ht, trivial⟩)) (s := s) trivial
  exact ⟨t, ht⟩

/-- A low strip inside the ranges of R70 completes. -/
theorem lowStrip_completes {row dx n col ty : Nat} (h : n ≤ 33 ∧ dx + 8 * n ≤ 304) (s : State) :
    ∃ t, lowStrip row dx n col ty s = .next t := by
  obtain ⟨t, ht⟩ := forEach_total (l := List.range n) (f := lowColumn row dx col ty)
    (fun k hk => lowColumn_completes (by have := List.mem_range.1 hk; omega)) s
  exact ⟨t, strip_eq_next.2 ⟨h, ht⟩⟩

/-- A high strip inside the ranges of R70 completes. -/
theorem highStrip_completes {row dx n col ty : Nat} (h : n ≤ 33 ∧ dx + 8 * n ≤ 304) (s : State) :
    ∃ t, highStrip row dx n col ty s = .next t := by
  obtain ⟨t, ht⟩ := forEach_total (l := List.range n) (f := highColumn row dx col ty)
    (fun k hk => highColumn_completes (by have := List.mem_range.1 hk; omega)) s
  exact ⟨t, strip_eq_next.2 ⟨h, ht⟩⟩

/-- A column of the mode-2 background is one draw. Rewrite with this equation rather than leave the unfolding to unification. -/
theorem backgroundColumn2_eq (line k : Nat) (s : State) :
    backgroundColumn2 line k s
      = tdDraw (8 + 8 * k : Nat) 8 (fun x => background2 (rowColours2 s line k) (pix1 (rowPattern2 s line k) x)) s := rfl

/-- A column of the mode-2 background only changes the line buffer. -/
theorem backgroundColumn2_frame {line k : Nat} {s t : State} (h : backgroundColumn2 line k s = .next t) :
    t = s.setLb t.lb := by
  rw [backgroundColumn2_eq] at h
  exact tdDraw_frame h

/-- A column of the mode-2 background completes. -/
theorem backgroundColumn2_completes {line k : Nat} (h : k < 32) (s : State) : ∃ t, backgroundColumn2 line k s = .next t := by
  rw [backgroundColumn2_eq]
  exact ⟨_, tdDraw_completes (by omega) _ s⟩

/-- The mode-2 background only changes the line buffer. -/
theorem background2Strip_frame {line : Nat} {s t : State} (h : background2Strip line s = .next t) : t = s.setLb t.lb :=
  forEach_frame (f := backgroundColumn2 line) (l := List.range 32) (fun _ _ _ _ => backgroundColumn2_frame) h

/-- The mode-2 background completes. -/
theorem background2Strip_completes (line : Nat) (s : State) : ∃ t, background2Strip line s = .next t :=
  forEach_total (f := backgroundColumn2 line) (l := List.range 32)
    (fun _ hk => backgroundColumn2_completes (List.mem_range.1 hk)) s

/-! ## Sprite draws -/

/-- One slot of a mode-4 draw only changes the line buffer. -/
theorem drawSlot4_frame {k : Nat} {s t : State} (h : drawSlot4 k s = .next t) : t = s.setLb t.lb := by
  unfold drawSlot4 at h
  split at h <;> exact tdDraw_frame h

/-- A mode-4 draw only changes the line buffer. -/
theorem drawM4_frame {s t : State} (h : drawM4 s = .next t) : t = s.setLb t.lb :=
  forEach_frame (fun _ _ _ _ => drawSlot4_frame) h

/-- One half of a mode-2 sprite only changes the line buffer. -/
theorem drawHalf2_frame {x : Int} {pack pal : Byte} {s t : State} (h : drawHalf2 x pack pal s = .next t) :
    t = s.setLb t.lb := by
  unfold drawHalf2 at h
  split at h
  · split at h <;> exact tdDraw_frame h
  · cases h; rfl

/-- One slot of a mode-2 draw only changes the line buffer. -/
theorem drawSlot2_frame {k : Nat} {s t : State} (h : drawSlot2 k s = .next t) : t = s.setLb t.lb := by
  obtain ⟨u, hu, ht⟩ := andThen_eq_next.1 h
  have e := drawHalf2_frame hu
  split at ht
  · rw [drawHalf2_frame ht, e]; rfl
  · cases ht; exact e

/-- A mode-2 draw changes the line buffer and, where it used the free value, its counter. -/
theorem drawM2_frame {s t : State} (h : drawM2 s = .next t) : t = useFreeColours (s.setLb t.lb) := by
  obtain ⟨u, hu, ht⟩ := andThen_eq_next.1 h
  have e := forEach_frame (fun _ _ _ _ => drawSlot2_frame) hu
  cases ht
  rw [e]; rfl

/-! ## The table and the finalizer -/

/-- A rebuild answers a next state exactly in a direct-colour format. -/
theorem rebuild_eq_next {s t : State} :
    rebuild s = .next t ↔ ∃ pixel, layout s.fmt = some pixel
      ∧ t = { s with lut := rebuiltLut s pixel, dirty := false, rebuildCount := s.rebuildCount + 1 } := by
  unfold rebuild
  split
  · simp [*]
  · simp [*, eq_comm]

/-- A direct-colour line: the state after the lazy rebuild, with its row written. -/
theorem finalizeDirect_eq_next {s t : State} :
    finalizeDirect s = .next t ↔ ∃ u, rebuildIfDirty s = .next u ∧ t = u.putRow (directRow u) := by
  unfold finalizeDirect
  rw [andThen_eq_next]
  exact exists_congr fun u => and_congr_right fun _ => by rw [Host.Outcome.next.injEq, eq_comm]

end Sys2Proof.Machine
end

