-- ==== Sys2Proof/Safety.lean ====
section
/-! DEFINITION. What counts as a safe run, in the terms the claims use: the invariant of the machine, when an operation
completes, what an operation may have written, and the words the statements share. -/

namespace Sys2Proof.Machine

/-- A result that is a next state: the operation was neither refused nor stopped by a fault. -/
def Completes (r : Result) : Prop := ∃ t, r = .next t

/-- A result with its next state changed. -/
def mapNext (f : State → State) (r : Result) : Result :=
  match r with
  | .next s => .next (f s)
  | .fault e => .fault e
  | .refused e => .refused e

/-- The invariant every step keeps (`Obligations.StepKeepsInvariant`). -/
structure State.Inv (s : State) : Prop where
  /-- VRAM is in canonical form. -/
  vramWf : s.vram.wf = true
  /-- `OUT` is in canonical form. -/
  outWf : rowsWf s.out = true
  /-- Every slot's x lies in R11's range. -/
  slotRange : ∀ k, (h : k < 8) → -24 ≤ s.slot[k].x ∧ s.slot[k].x ≤ 263
  /-- `mode_changed` is 1 exactly while an LS.FRAME_START is owed (R16, R212). -/
  modeChanged : s.modeChanged = true ↔ s.order = .noFrame
  /-- Once a frame has started, the latched geometry is one of the three of R151. -/
  geometry : s.order ≠ .noFrame →
    (s.lines, s.screenOffset) = (192, 24) ∨ (s.lines, s.screenOffset) = (224, 8) ∨ (s.lines, s.screenOffset) = (240, 0)
  /-- Once a frame has started, the host was told the latched geometry last (R150). -/
  told : s.order ≠ .noFrame →
    s.notified = some { offset := s.screenOffset, height := s.lines, coffset := s.params.coffset, columns := s.params.columns }
  /-- Lines are to be skipped only after a line of the frame was drawn (R150, R155). -/
  skipping : 0 < s.skipCount → s.order ≠ .inFrame 0
  /-- Lines are drawn only with a selected format (R212). -/
  format : ∀ n, s.order = .inFrame (n + 1) → s.fmt ≠ .notSelected
  /-- The output row starts at the top of the picture and has moved on by at most one for each line issued (R150, R162, R222). -/
  row : ∀ n, s.order = .inFrame n → s.screenOffset ≤ s.outRow ∧ s.outRow ≤ s.screenOffset + n

/-- A direct-colour format (R77). -/
def Format.isDirect (f : Format) : Prop := f = .rgb565 ∨ f = .bgr555 ∨ f = .bgr565

/-- The slots SS.M4.DRAW would draw lie in the line buffer. -/
def SlotsFit4 (s : State) : Prop :=
  ∀ k, k < s.nslot.val → 0 ≤ (slotAt s k).x ∧ (slotAt s k).x + (if zoom s then 16 else 8) ≤ 304

/-- The halves SS.M2.DRAW would draw, those at a positive offset (R122), lie in the line buffer. -/
def SlotsFit2 (s : State) : Prop :=
  ∀ k, k < s.nslot.val →
    (0 < (slotAt s k).x → (slotAt s k).x + (if zoom s then 16 else 8) ≤ 304)
    ∧ (sprSize s = true → 0 < (slotAt s k).x + (if zoom s then 16 else 8)
        → (slotAt s k).x + 2 * (if zoom s then 16 else 8) ≤ 304)

/-- What the state must be for a well-formed operation to be legal (R192): the calling order and the selected format for four
operations, slots inside the line buffer for the two draws, nothing for the others. -/
def Ready (i : Instr) (s : State) : Prop :=
  match i with
  | .ssM4Draw => SlotsFit4 s
  | .ssM2Draw => SlotsFit2 s
  | .lsLineDraw line => line.toNat < s.lines ∧ s.fmt ≠ .notSelected ∧ s.order ≠ .noFrame
  | .pfSelect _ => midFrame s = false
  | .pfRebuild => s.fmt.isDirect
  | .pfFinalize => s.fmt ≠ .notSelected
  | .tdM4Norm _ _ _ => True
  | .tdM4Flip _ _ _ => True
  | .tdM4NormBg _ _ _ => True
  | .tdM4FlipBg _ _ _ => True
  | .tdM4Dbl _ _ _ => True
  | .tdM2Spr _ _ _ => True
  | .tdM2Bg _ _ _ => True
  | .tdM2SprDbl _ _ _ => True
  | .ssM4Scan _ => True
  | .ssM2Scan _ => True
  | .scM4Low _ _ _ _ _ => True
  | .scM4High _ _ _ _ _ => True
  | .scM2Bg _ => True
  | .lsFrameStart => True
  | .lsBackfill => True
  | .lsM4Display _ => True
  | .lsM2Display _ => True
  | .lsMaskCol0 => True

/-- Operations that run a sprite scan, alone or as part of themselves. -/
def scansSprites : Instr → Bool
  | .ssM4Scan _ => true
  | .ssM2Scan _ => true
  | .lsM4Display _ => true
  | .lsM2Display _ => true
  | .lsLineDraw _ => true
  | _ => false

/-- Operations that write the line buffer, alone or as part of themselves (R12). -/
def drawsPixels : Instr → Bool
  | .ssM4Scan _ => false
  | .ssM2Scan _ => false
  | .lsFrameStart => false
  | .pfSelect _ => false
  | .pfRebuild => false
  | .pfFinalize => false
  | _ => true

/-- LS.LINE_DRAW, of any line. -/
def drawsLine : Instr → Bool
  | .lsLineDraw _ => true
  | _ => false

/-- Operations that write a row of `OUT` in some format (R37). -/
def writesOut : Instr → Bool
  | .lsLineDraw _ => true
  | .pfFinalize => true
  | _ => false

/-- Operations that rebuild the table in some state (R171, R177). -/
def rebuildsLut : Instr → Bool
  | .lsLineDraw _ => true
  | .pfFinalize => true
  | .pfRebuild => true
  | _ => false

/-- Everything the host owns, and the parameters, is in `t` as in `s` (R197), but for `status` and `dirty`, which the block
may also write. -/
def HostStateKept (s t : State) : Prop :=
  t.reg = s.reg ∧ t.vram = s.vram ∧ t.cram = s.cram ∧ t.kill = s.kill ∧ t.params = s.params
    ∧ t.hookBegin = s.hookBegin ∧ t.hookEnd = s.hookEnd ∧ t.host = s.host

/-- Every byte of VRAM reads in `t` as in `s`. -/
def SameVram (s t : State) : Prop := ∀ a, vread8 t a = vread8 s a

/-- `t` is `s` but for the line buffer, whose byte `i` is `w i` where `w` gives one and `s`'s byte elsewhere. -/
def WritesOnlyLb (s t : State) (w : Nat → Option Byte) : Prop :=
  t = { s with lb := t.lb } ∧ SameVram s t ∧ ∀ i, (h : i < 304) → t.lb[i] = (w i).getD s.lb[i]

/-- The line-buffer byte a draw of `w` pixels at `sx` writes at offset `i`. -/
def lane (sx w : Nat) (px : Nat → Option Byte) (i : Nat) : Option Byte :=
  if sx ≤ i ∧ i < sx + w then px (i - sx) else none

/-- The register bits that some rule names (R18 to R28): any other bit "is read by no rule and may hold any value" (R17). -/
def namedBits : Vector Byte 16 :=
  #v[0xEE#8, 0x5B#8, 0x0F#8, 0x80#8, 0x04#8, 0x7F#8, 0x07#8, 0x0F#8, 0xFF#8, 0xFF#8,
     0x00#8, 0x00#8, 0x00#8, 0x00#8, 0x00#8, 0x00#8]

/-- The line-buffer byte a sprite row of `w` pixels at the integer offset `x` writes at offset `i`. -/
def spriteLane (x : Int) (w : Nat) (px : Nat → Option Byte) (i : Nat) : Option Byte :=
  if x ≤ (i : Int) ∧ (i : Int) < x + w then px ((i : Int) - x).toNat else none

end Sys2Proof.Machine
end

