-- ==== Sys2Proof/Certificates/Slice0/Obligations.lean ====
section
/-! DEFINITION. The statements for the provers, from the numbered rules of spec/. Each docstring says what is stated; a statement
about results says that `exec` ANSWERS the next state, on every state and operands that meet its hypotheses. -/

open Sys2Proof Sys2Proof.Machine

/-! ## Reset and the invariant -/

/-- The reset values that R35's table states. -/
def Obligations.ResetHoldsTheStatedValues : Prop :=
  State.reset.dirty = true ∧ State.reset.fmt = .notSelected ∧ State.reset.modeChanged = true
    ∧ State.reset.notified = none ∧ State.reset.skipCount = 0 ∧ State.reset.rebuildCount = 0

/-- The machine's invariant holds right after reset (with the values that log entry 1 names). -/
def Obligations.ResetMeetsInvariant : Prop := State.reset.Inv

/-- From every state that meets the invariant a step that answers a next state answers one that meets it: canonical memories,
slots in range, the calling order and `mode_changed` agreeing, the latched geometry legal and told to the host. The canonical
forms and the calling order are the model's (log entries 2, 8 and 9), and so is the
parameter that says when a frame ends (log entry 10). -/
def Obligations.StepKeepsInvariant : Prop :=
  ∀ s t, s.Inv → step s = .next t → t.Inv

/-! ## Encodings -/

/-- Decoding the serial form of any operation, with any bytes after it, gives the operation back and leaves those bytes. -/
def Obligations.DecodeOfEncode : Prop :=
  ∀ (i : Instr) (rest : List Byte), decode (encode i ++ rest) = .ok (i, rest)

/-- Bytes that decode are the serial form of what they decode to, followed by what is left: no two serial forms, and no form
that drops a bit. -/
def Obligations.EncodeOfDecode : Prop :=
  ∀ (bs rest : List Byte) (i : Instr), decode bs = .ok (i, rest) → bs = encode i ++ rest

/-- A command byte outside the 24 of R75 is refused by the step, whatever bytes and actions follow it. -/
def Obligations.ReservedCommandsRefused : Prop :=
  ∀ (s : State) (cmd : Byte) (bs : List Byte) (h : List HostAction),
    cmd.toNat ∉ [0x00, 0x01, 0x02, 0x03, 0x04, 0x08, 0x0A, 0x0C, 0x10, 0x11, 0x12, 0x13, 0x20, 0x21, 0x22, 0x30, 0x31,
      0x32, 0x33, 0x34, 0x35, 0x40, 0x41, 0x42] →
    s.host = .issue (cmd :: bs) :: h →
    step s = .refused (.reservedCommand cmd)

/-- A serial stream that ends inside an operation, after its first byte at least, is refused (the model's choice, assumption 4). -/
def Obligations.TruncatedOperationsRefused : Prop :=
  ∀ (s : State) (i : Instr) (k : Nat) (h : List HostAction),
    0 < k → k < (encode i).length → s.host = .issue ((encode i).take k) :: h →
    step s = .refused .truncatedCommand

/-- The serial bytes that the spec's vectors give one operation of each unit decode to that operation. -/
def Obligations.VectorBytesDecode : Prop :=
  decode [0x00#8, 0x10#8, 0x00#8, 0x00#8, 0xAA#8, 0xCC#8, 0xF0#8, 0x10#8] = .ok (.tdM4Norm 16#16 0xF0CCAA00#32 0x10#8, [])
    ∧ decode [0x0A#8, 0x10#8, 0x00#8, 0xA5#8, 0xF4#8] = .ok (.tdM2Bg 16#16 0xA5#8 0xF4#8, [])
    ∧ decode [0x10#8, 0x12#8] = .ok (.ssM4Scan 18#8, [])
    ∧ decode [0x20#8, 0x00#8, 0x38#8, 0x08#8, 0x00#8, 0x01#8, 0x00#8, 0x00#8]
        = .ok (.scM4Low 0x3800#16 8#16 1#8 0#8 0#8, [])
    ∧ decode [0x31#8, 0x05#8] = .ok (.lsLineDraw 5#8, [])
    ∧ decode [0x40#8, 0x01#8] = .ok (.pfSelect 1#8, [])

/-! ## Steps and the host -/

/-- When the bytes the host issues next decode to an operation, a step is that operation on the state with those bytes taken
from the stream: the bytes left over stand in front of the host's further actions (the list of actions is log entry 3's). -/
def Obligations.StepRunsTheDecodedOperation : Prop :=
  ∀ (s : State) (b : Byte) (bs rest : List Byte) (h : List HostAction) (i : Instr),
    s.host = .issue (b :: bs) :: h → decode (b :: bs) = .ok (i, rest) →
    step s = exec i { s with host := if rest = [] then h else .issue rest :: h }

/-- With nothing pending a step changes nothing: the block does nothing between operations (the list of actions is log entry
3's). -/
def Obligations.IdleStepKeepsEverything : Prop :=
  ∀ s : State, s.host = [] → step s = .next s

/-- A byte written to a canonical VRAM is read back, every other address reads as before, and the memory stays canonical (the form
is log entry 2's). -/
def Obligations.MemoryReadAfterWrite : Prop :=
  ∀ (m : Memory) (a b : Nat) (v : Byte), m.wf = true → a < 0x4000 →
    (m.write a v).read b = (if b = a then v else m.read b) ∧ (m.write a v).wf = true

/-- The host's `.vram`, `.vram16` (low byte first) and `.vramfill` directives: in a canonical memory each byte lands at its
address, masked into VRAM (assumption 5); every other address reads as before, and nothing but VRAM and the list of actions
changes. -/
def Obligations.HostVramWritesLand : Prop :=
  ∀ (s : State) (a : BitVec 14) (bs : List Byte) (h : List HostAction),
    s.vram.wf = true → bs.length ≤ 0x4000 →
    (s.host = .vram a bs :: h
      ∨ (∃ ws, s.host = .vram16 a ws :: h ∧ bs = ws.flatMap (fun w : Half => [w.setWidth 8, (w >>> 8).setWidth 8]))
      ∨ ∃ n b, s.host = .vramFill a n b :: h ∧ bs = List.replicate n b) →
    ∃ t, step s = .next t ∧ t = { s with vram := t.vram, host := h } ∧ t.vram.wf = true
      ∧ (∀ j, (hj : j < bs.length) → vread8 t (a.toNat + j) = bs[j])
      ∧ (∀ x, (∀ j, j < bs.length → (a.toNat + j) % 0x4000 ≠ x % 0x4000) → vread8 t x = vread8 s x)

/-- The host's register, colour-RAM, flag and hook directives of R79 set what they name and nothing else, and a colour-RAM
directive's index is masked (assumption 5). -/
def Obligations.HostDirectivesTakeEffect : Prop :=
  ∀ (s : State) (h : List HostAction),
    (∀ n v, s.host = .reg n v :: h → ∃ t, step s = .next t ∧ t = { s with reg := t.reg, host := h }
        ∧ ∀ m, (hm : m < 16) → t.reg[m] = if m = n.val then v else s.reg[m])
    ∧ (∀ i vs, vs.length ≤ 32 → s.host = .cram i vs :: h →
        ∃ t, step s = .next t ∧ t = { s with cram := t.cram, host := h }
          ∧ (∀ j, (hj : j < vs.length) → t.cram[(i.val + j) % 32]'(Nat.mod_lt _ (by decide)) = vs[j])
          ∧ ∀ m, (hm : m < 32) → (∀ j, j < vs.length → (i.val + j) % 32 ≠ m) → t.cram[m] = s.cram[m])
    ∧ (s.host = .dirty :: h → step s = .next { s with dirty := true, host := h })
    ∧ (∀ v, s.host = .kill v :: h → step s = .next { s with kill := v, host := h })
    ∧ (∀ v, s.host = .status v :: h → step s = .next { s with status := v, host := h })
    ∧ (∀ b e, s.host = .hooks b e :: h → step s = .next { s with hookBegin := b, hookEnd := e, host := h })

/-! ## What every operation leaves alone -/

/-- The block never writes VRAM, CRAM, the control registers, the kill mask or the host's other state, and no byte of VRAM reads
otherwise after an operation. -/
def Obligations.OperationsKeepHostState : Prop :=
  ∀ (i : Instr) (s t : State), exec i s = .next t → HostStateKept s t ∧ SameVram s t

/-- `status` is written only by OR: a bit that was set stays set, bit 7 never changes, an operation that scans no sprites
leaves all of it, and the mode-4 scans leave the index field. -/
def Obligations.StatusIsOnlyOred : Prop :=
  ∀ (i : Instr) (s t : State), exec i s = .next t →
    s.status ||| t.status = t.status
    ∧ t.status.getLsbD 7 = s.status.getLsbD 7
    ∧ (scansSprites i = false → t.status = s.status)
    ∧ (∀ line, i = .ssM4Scan line ∨ i = .lsM4Display line → t.status &&& 0x1F#8 = s.status &&& 0x1F#8)

/-- No operation reads `status`: with another value there the outcome is the same, and the same bits are ORed in. -/
def Obligations.StatusIsNeverRead : Prop :=
  ∀ (i : Instr) (s : State) (v : Byte),
    (∀ t, exec i s = .next t →
      ∃ t', exec i { s with status := v } = .next t' ∧ { t' with status := t.status } = t
        ∧ t'.status ||| s.status = v ||| t.status)
    ∧ (∀ r, exec i s = .refused r → exec i { s with status := v } = .refused r)

/-- Register bits that no rule names are read by no operation: two states that agree on the named bits give the same outcome,
with their own registers kept. -/
def Obligations.UnnamedRegisterBitsAreNeverRead : Prop :=
  ∀ (i : Instr) (s : State) (r : Vector Byte 16),
    (∀ n, (h : n < 16) → r[n] &&& namedBits[n] = s.reg[n] &&& namedBits[n]) →
    exec i { s with reg := r } = mapNext (fun t => { t with reg := r }) (exec i s)

/-- `LB` changes only in operations that draw, `OUT` only in its row `out_row` and only in the two operations that finalize,
`LUT`, `dirty` and `rebuild_count` only where the table may be rebuilt, the sprite slots only where sprites are scanned, and the
sequencing state only in the operations named; so do the model's own records: the calls, the calling order and the free value's
counter (log entries 7 to 9). -/
def Obligations.WorkingStateHasItsWriters : Prop :=
  ∀ (i : Instr) (s t : State), exec i s = .next t →
    (drawsPixels i = false → t.lb = s.lb)
    ∧ (writesOut i = false → t.out = s.out)
    ∧ (∀ r, r ≠ s.outRow → readRow t.out r = readRow s.out r)
    ∧ (rebuildsLut i = false → t.lut = s.lut ∧ t.dirty = s.dirty ∧ t.rebuildCount = s.rebuildCount)
    ∧ (scansSprites i = false → t.slot = s.slot ∧ t.nslot = s.nslot)
    ∧ ((∀ c, i ≠ .pfSelect c) → t.fmt = s.fmt)
    ∧ (i ≠ .lsFrameStart → t.lines = s.lines ∧ t.screenOffset = s.screenOffset ∧ t.notified = s.notified)
    ∧ (i ≠ .lsFrameStart → (∀ c, i ≠ .pfSelect c) → t.modeChanged = s.modeChanged)
    ∧ (i ≠ .lsFrameStart → (∀ l, i ≠ .lsLineDraw l) → t.outRow = s.outRow ∧ t.skipCount = s.skipCount ∧ t.calls = s.calls)
    ∧ (i ≠ .lsFrameStart → (∀ l, i ≠ .lsLineDraw l) → (∀ c, i ≠ .pfSelect c) → t.order = s.order)
    ∧ (i ≠ .ssM2Draw → t.freeCount = s.freeCount)

/-- The whole-machine rule on completion: an operation completes exactly when its operands are in the ranges of R70 and R77 and
the state is `Ready` for it. No contents of `reg[]`, VRAM, CRAM, `kill` or `status` make an operation stop. What `Ready` asks
rests in part on the model's log: the calling order (9), when a frame ends (10), mode-2 lines 192..239 running (12),
PF.FINALIZE refused with no format (13), sprite draws that leave the line buffer refused (14). -/
def Obligations.OperationsCompleteExactlyWhenLegal : Prop :=
  ∀ (i : Instr) (s : State), Completes (exec i s) ↔ i.wf = true ∧ Ready i s

/-- An operation with an operand outside the ranges of R70 and R77 is refused. -/
def Obligations.IllFormedOperationsRefused : Prop :=
  ∀ (i : Instr) (s : State), i.wf = false → ∃ r, exec i s = .refused r

/-! ## TD -/

/-- The reads of VRAM and the pixels of what they read. `VRead8(a)` is the byte at `a` modulo 0x4000; `VRead16(a)` and
`VRead32(a)` are little-endian, each byte address masked by itself (R2), so that byte `k` of a packed row is the byte at
`a + k`, bitplane `k`, which supplies bit `k` of a pixel (R41). Bit `k` of `pix4(pack, p)` is bit `7 - p` of byte `k` of the
packed row (R91), and `pix1(pack, p)` is bit `7 - p` (R92). -/
def Obligations.PixelBitsOfPackedRows : Prop :=
  (∀ (s : State) (a : Nat),
      vread8 s a = s.vram.read (a % 0x4000)
      ∧ (vread16 s a).toNat = (s.vram.read (a % 0x4000)).toNat + 256 * (s.vram.read ((a + 1) % 0x4000)).toNat
      ∧ (vread32 s a).toNat = (s.vram.read (a % 0x4000)).toNat + 256 * (s.vram.read ((a + 1) % 0x4000)).toNat
          + 65536 * (s.vram.read ((a + 2) % 0x4000)).toNat + 16777216 * (s.vram.read ((a + 3) % 0x4000)).toNat
      ∧ (∀ k, k < 4 → (vread32 s a).extractLsb' (8 * k) 8 = vread8 s (a + k))
      ∧ ∀ p k, p < 8 → k < 4 → (pix4 (vread32 s a) p).getLsbD k = (vread8 s (a + k)).getLsbD (7 - p))
    ∧ (∀ (pack : Pack) (p k : Nat), p < 8 → k < 4 → (pix4 pack p).getLsbD k = pack.getLsbD (8 * k + 7 - p))
    ∧ ∀ (pack : Byte) (p : Nat), p < 8 → pix1 pack p = pack.getLsbD (7 - p)

/-- The branch-free form: `((pack >> (7 - p)) & 0x01010101) * 0x10204080 >> 28` is `pix4(pack, p)`. -/
def Obligations.MultiplyTrickGivesPixel : Prop :=
  ∀ (pack : Pack) (p : Nat), p < 8 →
    (((pack >>> (7 - p)) &&& 0x01010101#32) * 0x10204080#32) >>> 28 = (pix4 pack p).setWidth 32

/-- Decoding and encoding a row of four bitplanes are inverse to each other (R102). -/
def Obligations.PixelRowsAreInBijection : Prop :=
  (∀ pack : Pack, packOf (pix4 pack) = pack)
    ∧ ∀ (v : Nat → Nibble) (p : Nat), p < 8 → pix4 (packOf v) p = v p

/-- TD.M4.NORM and TD.M4.FLIP write the non-zero pixels at `LB[sx ..]`, left to right or mirrored, and nothing else. -/
def Obligations.TransparentTileFormsDraw : Prop :=
  ∀ (sx : Half) (pack : Pack) (pal : Byte) (s : State), sx.toNat + 8 ≤ 304 →
    (∃ t, exec (.tdM4Norm sx pack pal) s = .next t
      ∧ WritesOnlyLb s t (lane sx.toNat 8 (fun x =>
          if pix4 pack x = 0#4 then none else some (pal ||| (pix4 pack x).setWidth 8))))
    ∧ ∃ t, exec (.tdM4Flip sx pack pal) s = .next t
      ∧ WritesOnlyLb s t (lane sx.toNat 8 (fun x =>
          if pix4 pack (7 - x) = 0#4 then none else some (pal ||| (pix4 pack (7 - x)).setWidth 8)))

/-- TD.M4.NORM_BG and TD.M4.FLIP_BG write all eight pixels, colour 0 included, and nothing else. -/
def Obligations.BackgroundTileFormsDraw : Prop :=
  ∀ (sx : Half) (pack : Pack) (pal : Byte) (s : State), sx.toNat + 8 ≤ 304 →
    (∃ t, exec (.tdM4NormBg sx pack pal) s = .next t
      ∧ WritesOnlyLb s t (lane sx.toNat 8 (fun x => some (pal ||| (pix4 pack x).setWidth 8))))
    ∧ ∃ t, exec (.tdM4FlipBg sx pack pal) s = .next t
      ∧ WritesOnlyLb s t (lane sx.toNat 8 (fun x => some (pal ||| (pix4 pack (7 - x)).setWidth 8)))

/-- TD.M4.DBL writes each non-zero pixel twice, over sixteen bytes, and nothing else. -/
def Obligations.DoubleWidthTileFormDraws : Prop :=
  ∀ (sx : Half) (pack : Pack) (pal : Byte) (s : State), sx.toNat + 16 ≤ 304 →
    ∃ t, exec (.tdM4Dbl sx pack pal) s = .next t
      ∧ WritesOnlyLb s t (lane sx.toNat 16 (fun x =>
          if pix4 pack (x / 2) = 0#4 then none else some (pal ||| (pix4 pack (x / 2)).setWidth 8)))

/-- TD.M2.BG writes, for every pixel, the high nibble of the colour byte for a 1 bit and the low nibble for a 0 bit. -/
def Obligations.LegacyBackgroundFormDraws : Prop :=
  ∀ (sx : Half) (pack pal : Byte) (s : State), sx.toNat + 8 ≤ 304 →
    ∃ t, exec (.tdM2Bg sx pack pal) s = .next t
      ∧ WritesOnlyLb s t (lane sx.toNat 8 (fun x => some (if pix1 pack x then pal >>> 4 else pal &&& 0x0F#8)))

/-- TD.M2.SPR and TD.M2.SPR_DBL write the colour where the pattern bit is 1 and the colour is not 0, once or twice a pixel. -/
def Obligations.LegacySpriteFormsDraw : Prop :=
  ∀ (sx : Half) (pack pal : Byte) (s : State),
    (sx.toNat + 8 ≤ 304 → ∃ t, exec (.tdM2Spr sx pack pal) s = .next t
      ∧ WritesOnlyLb s t (lane sx.toNat 8 (fun x =>
          if pix1 pack x = true ∧ pal &&& 0x0F#8 ≠ 0#8 then some (pal &&& 0x0F#8) else none)))
    ∧ (sx.toNat + 16 ≤ 304 → ∃ t, exec (.tdM2SprDbl sx pack pal) s = .next t
      ∧ WritesOnlyLb s t (lane sx.toNat 16 (fun x =>
          if pix1 pack (x / 2) = true ∧ pal &&& 0x0F#8 ≠ 0#8 then some (pal &&& 0x0F#8) else none)))

/-! ## SS -/

/-- SS.M4.SCAN: of the entries before the first unsuppressed sentinel, those on the line, cut at eight, fill the slots in table
order; the overflow bit is ORed in if there are more than eight and the collision bit if more than one; nothing else changes.
That the slots from `nslot` on keep what they held is log entry 11's. -/
def Obligations.TileModeScanFillsSlots : Prop :=
  ∀ (line : Byte) (s : State), line.toNat < 240 →
    let sat := (s.reg[5] &&& 0x7E#8).toNat * 128
    let y := fun i => ((vread8 s (sat + i)).toNat + 1) % 256
    let h := (if s.reg[1].getLsbD 1 then 16 else 8) * (if s.reg[1].getLsbD 0 then 2 else 1)
    let tall := s.reg[0].getLsbD 2 && s.reg[0].getLsbD 1 && (s.reg[1].getLsbD 4 != s.reg[1].getLsbD 3)
    let q := ((List.range 64).takeWhile (fun i => !(y i == 0xD1 && !tall))).filter
      (fun i => decide (y i ≤ line.toNat ∧ line.toNat < y i + h))
    ∃ t, exec (.ssM4Scan line) s = .next t
      ∧ t = { s with slot := t.slot, nslot := t.nslot, status := t.status } ∧ SameVram s t
      ∧ t.nslot.val = min 8 q.length
      ∧ (∀ k, (hk : k < 8) → t.nslot.val ≤ k → t.slot[k] = s.slot[k])
      ∧ t.status = s.status ||| (if 8 < q.length then 0x40#8 else 0#8) ||| (if 1 < q.length then 0x20#8 else 0#8)
      ∧ ∀ k, k < t.nslot.val → ∃ i, q[k]? = some i
        ∧ (slotAt t k).x = (if s.reg[0].getLsbD 3 then 0 else 8) + ((vread8 s (sat + 0x80 + 2 * i)).toNat : Int)
        ∧ (slotAt t k).addr.toNat = (s.reg[6] &&& 0x04#8).toNat * 2048
            + (vread8 s (sat + 0x81 + 2 * i) &&& (if s.reg[1].getLsbD 1 then 0xFE#8 else 0xFF#8)).toNat * 32
            + (line.toNat - y i) / (if s.reg[1].getLsbD 0 then 2 else 1) * 4

/-- SS.M2.SCAN: as SS.M4.SCAN with 32 entries of four bytes, four slots, the negative positions of R121, the colour kept in
the slot, and the index of the overflowing entry ORed into `OVR_IDX`. Lines 192..239 are log entry 12's, and that the slots from
`nslot` on keep what they held is log entry 11's. -/
def Obligations.LegacyScanFillsSlots : Prop :=
  ∀ (line : Byte) (s : State), line.toNat < 240 →
    let sat := (s.reg[5] &&& 0x7F#8).toNat * 128
    let raw := fun i => ((vread8 s (sat + 4 * i)).toNat + 1) % 256
    let y : Nat → Int := fun i => if 0xE0 < raw i then (raw i : Int) - 256 else raw i
    let h : Nat := (if s.reg[1].getLsbD 1 then 16 else 8) * (if s.reg[1].getLsbD 0 then 2 else 1)
    let q := ((List.range 32).takeWhile (fun i => !(raw i == 0xD1))).filter
      (fun i => decide (y i ≤ (line.toNat : Int) ∧ (line.toNat : Int) < y i + h))
    ∃ t, exec (.ssM2Scan line) s = .next t
      ∧ t = { s with slot := t.slot, nslot := t.nslot, status := t.status } ∧ SameVram s t
      ∧ t.nslot.val = min 4 q.length
      ∧ (∀ k, (hk : k < 8) → t.nslot.val ≤ k → t.slot[k] = s.slot[k])
      ∧ t.status = s.status ||| (match q[4]? with | some i => 0x40#8 ||| BitVec.ofNat 8 i | none => 0#8)
          ||| (if 1 < q.length then 0x20#8 else 0#8)
      ∧ ∀ k, k < t.nslot.val → ∃ i, q[k]? = some i
        ∧ (slotAt t k).x = 8 + ((vread8 s (sat + 4 * i + 1)).toNat : Int)
            - (if (vread8 s (sat + 4 * i + 3)).getLsbD 7 then 32 else 0)
        ∧ (slotAt t k).colour = some ((vread8 s (sat + 4 * i + 3)).setWidth 4)
        ∧ ((slotAt t k).addr.toNat : Int) = (s.reg[6] &&& 0x07#8).toNat * 2048
            + (vread8 s (sat + 4 * i + 2) &&& (if s.reg[1].getLsbD 1 then 0xFC#8 else 0xFF#8)).toNat * 8
            + ((line.toNat : Int) - y i) / (if s.reg[1].getLsbD 0 then 2 else 1)

/-- SS.M4.DRAW: where sprites overlap, the non-zero pixel of the lowest slot stands; the second palette's bit is set in every
pixel; nothing but the line buffer changes. -/
def Obligations.TileModeDrawPutsLowestSlotOnTop : Prop :=
  ∀ s : State, SlotsFit4 s →
    ∃ t, exec .ssM4Draw s = .next t
      ∧ WritesOnlyLb s t (fun i => (List.range s.nslot.val).findSome? (fun k =>
          spriteLane (slotAt s k).x (if s.reg[1].getLsbD 0 then 16 else 8)
            (fun x =>
              let v := pix4 (vread32 s (slotAt s k).addr.toNat) (if s.reg[1].getLsbD 0 then x / 2 else x)
              if v = 0#4 then none else some (0x10#8 ||| v.setWidth 8)) i))

/-- SS.M2.DRAW: the lowest slot's pixel stands; with SIZE a second half follows 16 bytes on and one width to the right; a half at
an offset that is not positive is dropped whole; nothing but the line buffer changes, and the free value's counter only where a
slot has no colour (assumption 7; the statement holds for every value of that colour). -/
def Obligations.LegacyDrawPutsLowestSlotOnTop : Prop :=
  ∀ s : State, SlotsFit2 s →
    let w := if s.reg[1].getLsbD 0 then 16 else 8
    let half := fun (k : Nat) (x : Int) (a : Nat) (i : Nat) =>
      if 0 < x then
        spriteLane x w (fun p =>
          if (vread8 s a).getLsbD (7 - (if s.reg[1].getLsbD 0 then p / 2 else p)) = true ∧ slotColour s k ≠ 0#4
          then some ((slotColour s k).setWidth 8) else none) i
      else none
    ∃ t, exec .ssM2Draw s = .next t
      ∧ t = { s with lb := t.lb, freeCount := t.freeCount } ∧ SameVram s t
      ∧ ((∀ k, k < s.nslot.val → (slotAt s k).colour ≠ none) → t.freeCount = s.freeCount)
      ∧ ∀ i, (h : i < 304) → t.lb[i] = ((List.range s.nslot.val).findSome? (fun k =>
          (half k (slotAt s k).x (slotAt s k).addr.toNat i).or
            (if s.reg[1].getLsbD 1 then half k ((slotAt s k).x + w) ((slotAt s k).addr.toNat + 16) i else none))).getD s.lb[i]

/-! ## SC -/

/-- SC.M4.LOW: every pixel of every column without priority, mirrored and flipped as its tile code says, with the palette bit
of the code; a priority column is left as it was; nothing but the line buffer changes. -/
def Obligations.LowPassDrawsWholeColumns : Prop :=
  ∀ (row dx : Half) (n col ty : Byte) (s : State), n.toNat ≤ 33 → dx.toNat + 8 * n.toNat ≤ 304 →
    ∃ t, exec (.scM4Low row dx n col ty) s = .next t
      ∧ WritesOnlyLb s t (lane dx.toNat (8 * n.toNat) (fun j =>
          let code := vread16 s (row.toNat + 2 * ((col.toNat + j / 8) % 32))
          let r := if code.getLsbD 10 then 7 - ty.toNat % 8 else ty.toNat % 8
          let pack := vread32 s ((code &&& 0x1FF#16).toNat * 32 + r * 4)
          let v := pix4 pack (if code.getLsbD 9 then 7 - j % 8 else j % 8)
          if code.getLsbD 12 then none
          else some ((if code.getLsbD 11 then 0x10#8 else 0#8) ||| v.setWidth 8)))

/-- SC.M4.HIGH: the non-zero pixels of every priority column; every other byte is left as it was. -/
def Obligations.HighPassDrawsNonzeroPixels : Prop :=
  ∀ (row dx : Half) (n col ty : Byte) (s : State), n.toNat ≤ 33 → dx.toNat + 8 * n.toNat ≤ 304 →
    ∃ t, exec (.scM4High row dx n col ty) s = .next t
      ∧ WritesOnlyLb s t (lane dx.toNat (8 * n.toNat) (fun j =>
          let code := vread16 s (row.toNat + 2 * ((col.toNat + j / 8) % 32))
          let r := if code.getLsbD 10 then 7 - ty.toNat % 8 else ty.toNat % 8
          let pack := vread32 s ((code &&& 0x1FF#16).toNat * 32 + r * 4)
          let v := pix4 pack (if code.getLsbD 9 then 7 - j % 8 else j % 8)
          if code.getLsbD 12 = true ∧ v ≠ 0#4 then some ((if code.getLsbD 11 then 0x10#8 else 0#8) ||| v.setWidth 8)
          else none))

/-- SC.M2.BG: all 256 visible bytes from the name, pattern and colour tables of the line's third; the margins stay. Lines 192..239
are log entry 12's. -/
def Obligations.LegacyBackgroundDrawsWindow : Prop :=
  ∀ (line : Byte) (s : State), line.toNat < 240 →
    ∃ t, exec (.scM2Bg line) s = .next t
      ∧ WritesOnlyLb s t (lane 8 256 (fun j =>
          let third := line.toNat / 64
          let name := vread8 s ((s.reg[2] &&& 0x0F#8).toNat * 1024 + line.toNat / 8 * 32 + j / 8)
          let o := name.toNat * 8 + line.toNat % 8
          let colours := vread8 s ((s.reg[3] &&& 0x80#8).toNat * 64 + third * 2048 + o)
          let pattern := vread8 s ((s.reg[4] &&& 0x04#8).toNat * 2048 + third * 2048 + o)
          some (if pattern.getLsbD (7 - j % 8) then colours >>> 4 else colours &&& 0x0F#8)))

/-! ## LS -/

/-- `frame_geometry`: the two tall combinations and the default for every other one, and always `lines + 2 * offset = 240`;
`tall_mode` is true exactly when it gives 224 or 240 lines, that is when `M4` and `M2` are 1 and exactly one of `M1` and `M3`
is, from the live registers and whatever the latched `lines` are. -/
def Obligations.FrameGeometryTable : Prop :=
  ∀ s : State,
    let m4 := s.reg[0].getLsbD 2
    let m2 := s.reg[0].getLsbD 1
    let m1 := s.reg[1].getLsbD 4
    let m3 := s.reg[1].getLsbD 3
    (m4 = true ∧ m2 = true ∧ m1 = true ∧ m3 = false → frameGeometry s = (224, 8))
      ∧ (m4 = true ∧ m2 = true ∧ m1 = false ∧ m3 = true → frameGeometry s = (240, 0))
      ∧ (¬(m4 = true ∧ m2 = true ∧ m1 ≠ m3) → frameGeometry s = (192, 24))
      ∧ (frameGeometry s).1 + 2 * (frameGeometry s).2 = 240
      ∧ (tallMode s = true ↔ (frameGeometry s).1 = 224 ∨ (frameGeometry s).1 = 240)
      ∧ (tallMode s = true ↔ m4 = true ∧ m2 = true ∧ m1 ≠ m3)
      ∧ ∀ n, tallMode { s with lines := n } = tallMode s

/-- LS.FRAME_START: the geometry is latched, `skip_count` cleared, `out_row` set to the offset; the host is told when the mode
changed or the geometry is not the one it was told last, and only then; nothing else changes. The record of the calls and the
calling order are the model's (log entries 8 and 9). -/
def Obligations.FrameStartLatchesAndNotifies : Prop :=
  ∀ s : State,
    let g : Geometry := { offset := (frameGeometry s).2, height := (frameGeometry s).1,
                          coffset := s.params.coffset, columns := s.params.columns }
    ∃ t, exec .lsFrameStart s = .next t
      ∧ t = { s with lines := t.lines, screenOffset := t.screenOffset, skipCount := t.skipCount, outRow := t.outRow,
                     notified := t.notified, modeChanged := t.modeChanged, calls := t.calls, order := .inFrame 0 }
      ∧ SameVram s t
      ∧ t.lines = g.height ∧ t.screenOffset = g.offset ∧ t.skipCount = 0 ∧ t.outRow = g.offset
      ∧ t.notified = some g
      ∧ (s.modeChanged = true ∨ s.notified ≠ some g → t.modeChanged = false ∧ t.calls = .geometryChange g :: s.calls)
      ∧ (s.modeChanged = false ∧ s.notified = some g → t.modeChanged = false ∧ t.calls = s.calls)

/-- LS.BACKFILL: every byte of the line buffer, margins included, becomes the backdrop. -/
def Obligations.BackfillFillsWholeBuffer : Prop :=
  ∀ s : State,
    ∃ t, exec .lsBackfill s = .next t
      ∧ WritesOnlyLb s t (fun _ => some ((s.reg[7] &&& 0x0F#8) ||| (if s.reg[0].getLsbD 2 then 0x10#8 else 0#8)))

/-- LS.MASK_COL0: with MASK0 the eight bytes `LB[8..15]` become 0xE0, without it nothing changes. -/
def Obligations.ColumnMaskCoversEightPixels : Prop :=
  ∀ s : State,
    ∃ t, exec .lsMaskCol0 s = .next t
      ∧ WritesOnlyLb s t (fun i => if s.reg[0].getLsbD 5 = true ∧ 8 ≤ i ∧ i ≤ 15 then some 0xE0#8 else none)

/-- The scroll parameters of a mode-4 line, formula by formula. -/
def Obligations.ScrollParameterFormulas : Prop :=
  ∀ (s : State) (line : Nat),
    let tall := s.reg[0].getLsbD 2 && s.reg[0].getLsbD 1 && (s.reg[1].getLsbD 4 != s.reg[1].getLsbD 3)
    let v := if tall then (s.reg[9].toNat + line) % 256 else (s.reg[9].toNat + line) % 224
    let base := if tall then (s.reg[2] &&& 0x0C#8).toNat * 1024 + 0x700 else (s.reg[2] &&& 0x0E#8).toNat * 1024
    let hs := if s.reg[0].getLsbD 6 = true ∧ line < 16 then 0 else s.reg[8].toNat
    scrollOf s line =
      { rowS := base + v / 8 * 64, rowF := base + line / 8 * 64, tyS := v % 8, tyF := line % 8,
        col0 := (256 - hs) / 8 % 32, dx := if hs % 8 = 0 then 8 else hs % 8, cells := if hs % 8 = 0 then 32 else 33 }

/-- The picture is moved right by the scroll: the drawn columns cover the visible window, stay inside the line buffer up to
offset 270, and screen pixel `x` shows the name-table pixel column `x - hs` modulo 256. -/
def Obligations.ScrollMovesPictureRight : Prop :=
  ∀ (s : State) (line x : Nat), x < 256 →
    let p := scrollOf s line
    let j := 8 + x - p.dx
    1 ≤ p.dx ∧ p.dx ≤ 8 ∧ 264 ≤ p.dx + 8 * p.cells ∧ p.dx + 8 * p.cells ≤ 271
      ∧ (p.col0 + j / 8) % 32 * 8 + j % 8 = (x + 256 - hscroll s line) % 256

/-- LS.M4.DISPLAY is its sub-operations in their fixed order: the low strips, the sprite scan and draw, the high strips, each
left out when its kill bit is set; under VLOCK a pass is two strips. -/
def Obligations.TileModeDisplayRunsLayersInOrder : Prop :=
  ∀ (line : Byte) (s : State), line.toNat < 240 →
    let p := scrollOf s line.toNat
    let pass := fun (strip : Half → Half → Byte → Byte → Byte → Instr) (u : State) =>
      if s.reg[0].getLsbD 7 then
        andThen
          (exec (strip (BitVec.ofNat 16 p.rowS) (BitVec.ofNat 16 p.dx) (BitVec.ofNat 8 (p.cells - 8)) (BitVec.ofNat 8 p.col0)
            (BitVec.ofNat 8 p.tyS)) u)
          (exec (strip (BitVec.ofNat 16 p.rowF) (BitVec.ofNat 16 (p.dx + 8 * (p.cells - 8))) 8#8
            (BitVec.ofNat 8 (p.col0 + p.cells - 8)) (BitVec.ofNat 8 p.tyF)))
      else
        exec (strip (BitVec.ofNat 16 p.rowS) (BitVec.ofNat 16 p.dx) (BitVec.ofNat 8 p.cells) (BitVec.ofNat 8 p.col0)
          (BitVec.ofNat 8 p.tyS)) u
    exec (.lsM4Display line) s =
      andThen (if s.kill.getLsbD 0 then .next s else pass .scM4Low s) (fun u =>
        andThen (if s.kill.getLsbD 1 then .next u else andThen (exec (.ssM4Scan line) u) (exec .ssM4Draw)) (fun v =>
          if s.kill.getLsbD 2 then .next v else pass .scM4High v))

/-- LS.M2.DISPLAY is the background strip, then the sprite scan and draw, each left out when its kill bit is set; KILL_FG has
no effect. Lines 192..239 are log entry 12's. -/
def Obligations.LegacyDisplayRunsLayersInOrder : Prop :=
  ∀ (line : Byte) (s : State), line.toNat < 240 →
    exec (.lsM2Display line) s =
      andThen (if s.kill.getLsbD 0 then .next s else exec (.scM2Bg line) s) (fun u =>
        if s.kill.getLsbD 1 then .next u else andThen (exec (.ssM2Scan line) u) (exec .ssM2Draw))

/-- Both displays complete on every state, and change only the line buffer, the sprite slots and, by OR, `status`; with
KILL_SPR set only the line buffer. Lines 192..239 of LS.M2.DISPLAY are log entry 12's. -/
def Obligations.DisplaysComplete : Prop :=
  ∀ (line : Byte) (s : State) (i : Instr), line.toNat < 240 → (i = .lsM4Display line ∨ i = .lsM2Display line) →
    ∃ t, exec i s = .next t
      ∧ t = { s with lb := t.lb, slot := t.slot, nslot := t.nslot, status := t.status } ∧ SameVram s t
      ∧ (s.kill.getLsbD 1 = true → t = { s with lb := t.lb })

/-- LS.LINE_DRAW: with a skip pending it counts it down by one and changes nothing else of the block; otherwise it is the steps of
R153 in their order, with the hook answers combined as R155 says, each hook asked once with the line. The record of the calls,
newest first, and the calling order, which counts the line either way, are the model's (log entries 8 and 9). -/
def Obligations.LineDrawRunsItsSteps : Prop :=
  ∀ (line : Byte) (s : State), line.toNat < 240 → Ready (.lsLineDraw line) s →
    exec (.lsLineDraw line) s =
      if 0 < s.skipCount then .next { s with skipCount := s.skipCount - 1, order := s.order.lineIssued }
      else
        andThen (exec .lsBackfill { s with calls := .scanBegin line.toNat :: s.calls, skipCount := s.hookBegin }) (fun a =>
          andThen (if s.reg[1].getLsbD 6 then exec (if s.reg[0].getLsbD 2 then .lsM4Display line else .lsM2Display line) a
                   else .next a) (fun b =>
            andThen (exec .lsMaskCol0 b) (fun c =>
              andThen (exec .pfFinalize c) (fun d =>
                .next { d with calls := .scanEnd line.toNat :: d.calls,
                               skipCount := if 0 < s.hookEnd then s.hookEnd else s.hookBegin,
                               outRow := s.outRow + 1, order := s.order.lineIssued }))))

/-- LS.LINE_DRAW completes whenever it is legal: no line-buffer write of a line falls outside the buffer (R221), on any contents
of registers and memories. It advances the row by one, asks each hook once, and leaves the rest of the sequencing state, the
host's state and every other output row as they were. Mode-2 lines from 192 up are log entry 12's; the record of the calls and the
calling order in `Ready` are log entries 8's and 9's. -/
def Obligations.DrawnLineCompletes : Prop :=
  ∀ (line : Byte) (s : State), line.toNat < 240 → Ready (.lsLineDraw line) s → s.skipCount = 0 →
    ∃ t, exec (.lsLineDraw line) s = .next t
      ∧ t.outRow = s.outRow + 1
      ∧ t.calls = .scanEnd line.toNat :: .scanBegin line.toNat :: s.calls
      ∧ t.skipCount = (if 0 < s.hookEnd then s.hookEnd else s.hookBegin)
      ∧ HostStateKept s t ∧ SameVram s t
      ∧ t.fmt = s.fmt ∧ t.modeChanged = s.modeChanged ∧ t.lines = s.lines ∧ t.screenOffset = s.screenOffset
      ∧ t.notified = s.notified ∧ t.freeCount = s.freeCount
      ∧ (∀ n, s.order = .inFrame n → t.order = .inFrame (n + 1))
      ∧ ∀ r, r ≠ s.outRow → readRow t.out r = readRow s.out r

/-- After a drawn line every byte of the line buffer is a palette bit with a 4-bit colour, or the mask byte 0xE0. -/
def Obligations.DrawnLineBytesAreIndices : Prop :=
  ∀ (line : Byte) (s t : State), s.skipCount = 0 → exec (.lsLineDraw line) s = .next t →
    ∀ i, (h : i < 304) → t.lb[i].toNat < 0x20 ∨ t.lb[i] = 0xE0#8

/-- After a drawn line with MASK0 set the leftmost eight visible bytes are 0xE0, whatever was drawn. -/
def Obligations.DrawnLineIsMasked : Prop :=
  ∀ (line : Byte) (s t : State), s.skipCount = 0 → s.reg[0].getLsbD 5 = true → exec (.lsLineDraw line) s = .next t →
    ∀ i, 8 ≤ i → (h : i < 16) → t.lb[i] = 0xE0#8

/-- With the display off a drawn line is the backdrop, but for the column mask, and no status flag and no slot changes (the calling
order in `Ready` is log entry 9's). -/
def Obligations.BlankedLineIsBackdrop : Prop :=
  ∀ (line : Byte) (s : State), line.toNat < 240 → Ready (.lsLineDraw line) s → s.skipCount = 0 →
    s.reg[1].getLsbD 6 = false →
    ∃ t, exec (.lsLineDraw line) s = .next t ∧ t.status = s.status ∧ t.slot = s.slot ∧ t.nslot = s.nslot
      ∧ ∀ i, (h : i < 304) → t.lb[i] =
          if s.reg[0].getLsbD 5 = true ∧ 8 ≤ i ∧ i ≤ 15 then 0xE0#8
          else (s.reg[7] &&& 0x0F#8) ||| (if s.reg[0].getLsbD 2 then 0x10#8 else 0#8)

/-- A drawn line lands whole in row `out_row`: the visible window as indices, or through the lookup table, or nowhere in
INTERNAL format. -/
def Obligations.DrawnLineLandsInItsRow : Prop :=
  ∀ (line : Byte) (s t : State), s.skipCount = 0 → exec (.lsLineDraw line) s = .next t →
    (s.fmt = .indexed8 → ∃ px : Vector Byte 256, readRow t.out s.outRow = some (.indexed px)
        ∧ ∀ x, (h : x < 256) → px[x] = t.lb[8 + x])
    ∧ (s.fmt.isDirect → ∃ px : Vector Half 256, readRow t.out s.outRow = some (.direct px)
        ∧ ∀ x, (h : x < 256) → px[x] = t.lut[t.lb[8 + x].toNat]'(t.lb[8 + x].isLt))
    ∧ (s.fmt = .internal → t.out = s.out)

/-- A drawn line rebuilds the table exactly once if it is dirty and the format is direct colour, and not otherwise; after a
direct-colour line the table is clean. -/
def Obligations.DrawnLineRebuildsAtMostOnce : Prop :=
  ∀ (line : Byte) (s t : State), s.skipCount = 0 → exec (.lsLineDraw line) s = .next t →
    (s.fmt.isDirect → t.dirty = false ∧ t.rebuildCount = s.rebuildCount + (if s.dirty then 1 else 0)
        ∧ (s.dirty = false → t.lut = s.lut))
    ∧ (¬ s.fmt.isDirect → t.dirty = s.dirty ∧ t.rebuildCount = s.rebuildCount ∧ t.lut = s.lut)

/-- LS.LINE_DRAW is refused when the line is not below `lines`, when no format is selected, and when no LS.FRAME_START has run
since reset or the last PF.SELECT (the model's record of it: log entry 9). -/
def Obligations.LineDrawNeedsItsStartUp : Prop :=
  ∀ (line : Byte) (s : State),
    (s.lines ≤ line.toNat ∨ s.fmt = .notSelected ∨ s.order = .noFrame) →
    ∃ r, exec (.lsLineDraw line) s = .refused r

/-- The format never changes in mid-frame: whatever operations run, until an LS.FRAME_START, no LS.LINE_DRAW is executed after a
PF.SELECT; as long as the frame goes on, `fmt` stays; and once a line has been issued no operation changes it until LS.FRAME_START
(R215) or, in a block whose frames end at their last line (R170), while that line is still to come. R212, R215 and R170 by the
model's record of the calling order (log entry 9) and its parameter for when a frame ends (log entry 10). -/
def Obligations.FormatNeverChangesInMidFrame : Prop :=
  (∀ (code line : Byte) (s t u v : State) (ops : List Instr),
      exec (.pfSelect code) s = .next t → (∀ i ∈ ops, i ≠ .lsFrameStart) → forEach exec ops t = .next u →
      exec (.lsLineDraw line) u ≠ .next v)
    ∧ (∀ (s u : State) (ops : List Instr),
      (∀ i ∈ ops, i ≠ .lsFrameStart) → forEach exec ops s = .next u → u.order ≠ .noFrame → u.fmt = s.fmt)
    ∧ ∀ (s u : State) (ops : List Instr) (n : Nat),
      s.order = .inFrame n → 0 < n →
      (s.params.frameEnd = .atNextFrameStart ∨ n + (ops.filter drawsLine).length < s.lines) →
      (∀ i ∈ ops, i ≠ .lsFrameStart) →
      forEach exec ops s = .next u → u.fmt = s.fmt

/-! ## PF -/

/-- PF.SELECT, before the first frame, with no line issued since LS.FRAME_START (R215), or after the last line in a block whose
frames end there (R170; the parameter and what counts as the last line are log entry 10's), sets the format its code names and `mode_changed`; nothing else changes, `dirty` and the table included, but
the model's calling order (log entry 9), by which an LS.FRAME_START is owed again before a line can be drawn (R212). -/
def Obligations.SelectSetsFormat : Prop :=
  ∀ (code : Byte) (s : State) (f : Format),
    (code = 0#8 ∧ f = .indexed8 ∨ code = 1#8 ∧ f = .rgb565 ∨ code = 2#8 ∧ f = .bgr555 ∨ code = 3#8 ∧ f = .bgr565
      ∨ code = 4#8 ∧ f = .internal) →
    (∀ n, s.order = .inFrame n → n = 0 ∨ (s.params.frameEnd = .atLastLine ∧ s.lines ≤ n)) →
    ∃ t, exec (.pfSelect code) s = .next t
      ∧ t = { s with fmt := f, modeChanged := true, order := .noFrame } ∧ SameVram s t
      ∧ ∀ line, ¬ Ready (.lsLineDraw line) t

/-- PF.SELECT with a code from 5 up is refused. -/
def Obligations.ReservedFormatCodesRefused : Prop :=
  ∀ (code : Byte) (s : State), 5 ≤ code.toNat → exec (.pfSelect code) s = .refused .reservedFormatCode

/-- PF.REBUILD in a direct-colour format: every entry of the table is its masked source colour, widened by repeating its top
bits and laid out as the format says; entry 0xE0 is 0; `dirty` is cleared and the ghost count goes up by one. -/
def Obligations.RebuildFillsTable : Prop :=
  ∀ s : State, s.fmt.isDirect →
    let entry := fun i : Nat =>
      if s.reg[0].getLsbD 2 then
        let e := (s.cram[i % 32]'(Nat.mod_lt _ (by decide))).toNat
        if s.params.cramFormat = .sms6 then (e % 4 * 5, e / 4 % 4 * 5, e / 16 % 4 * 5) else (e % 16, e / 16 % 16, e / 256 % 16)
      else
        let e := (s.params.tmsPalette[i % 16]'(Nat.mod_lt _ (by decide))).toNat
        (e % 16, e / 16 % 16, e / 256)
    let five := fun c : Nat => 2 * c + c / 8
    let six := fun c : Nat => 4 * c + c / 4
    ∃ t, exec .pfRebuild s = .next t
      ∧ t = { s with lut := t.lut, dirty := false, rebuildCount := s.rebuildCount + 1 } ∧ SameVram s t
      ∧ t.lut[0xE0] = 0#16
      ∧ ∀ i, (h : i < 256) → i ≠ 0xE0 →
          (s.fmt = .rgb565 → t.lut[i].toNat = five (entry i).1 * 2048 + six (entry i).2.1 * 32 + five (entry i).2.2)
          ∧ (s.fmt = .bgr555 → t.lut[i].toNat = five (entry i).2.2 * 1024 + five (entry i).2.1 * 32 + five (entry i).1)
          ∧ (s.fmt = .bgr565 → t.lut[i].toNat = five (entry i).2.2 * 2048 + six (entry i).2.1 * 32 + five (entry i).1)

/-- PF.REBUILD is refused in every format that has no layout to build for. -/
def Obligations.RebuildNeedsDirectColour : Prop :=
  ∀ s : State, ¬ s.fmt.isDirect → exec .pfRebuild s = .refused .rebuildWithoutDirectColour

/-- PF.FINALIZE: the visible window as indices in INDEXED8; in direct colour the rebuild if dirty, then the window through the
table; nothing in INTERNAL. Every other row, and the rest of the state, stays. -/
def Obligations.FinalizeHandsOverVisibleWindow : Prop :=
  ∀ s : State,
    (s.fmt = .indexed8 → ∃ t, exec .pfFinalize s = .next t ∧ t = { s with out := t.out } ∧ SameVram s t
        ∧ (∃ px : Vector Byte 256, readRow t.out s.outRow = some (.indexed px) ∧ ∀ x, (h : x < 256) → px[x] = s.lb[8 + x])
        ∧ ∀ r, r ≠ s.outRow → readRow t.out r = readRow s.out r)
    ∧ (s.fmt.isDirect → ∃ u t, (if s.dirty then exec .pfRebuild s else .next s) = .next u
        ∧ exec .pfFinalize s = .next t ∧ t = { u with out := t.out } ∧ SameVram s t
        ∧ (∃ px : Vector Half 256, readRow t.out s.outRow = some (.direct px)
            ∧ ∀ x, (h : x < 256) → px[x] = u.lut[s.lb[8 + x].toNat]'(s.lb[8 + x].isLt))
        ∧ ∀ r, r ≠ s.outRow → readRow t.out r = readRow s.out r)
    ∧ (s.fmt = .internal → exec .pfFinalize s = .next s)

/-- PF.SELECT with a code that names a format is refused in mid-frame: once a line has been issued since the last LS.FRAME_START
(R215), or, in a block whose frames end at their last line (R170), before that line. The record of the lines is log entry 9's, the
parameter and what counts as the last line are log entry 10's. -/
def Obligations.SelectRefusedInMidFrame : Prop :=
  ∀ (code : Byte) (s : State) (n : Nat), code.toNat < 5 → s.order = .inFrame n → 0 < n →
    (s.params.frameEnd = .atNextFrameStart ∨ n < s.lines) →
    exec (.pfSelect code) s = .refused .selectInMidFrame
end

