-- ==== Sys2Proof/Tests/Slice0.lean ====
section
/-! SUPPORT. The author's tests: the spec's own vectors (spec/95_test_vectors.md, named by their ids) on one operation each, the
decoding of every operation from bytes written out from R75, an ill-formed term for every check, and for every statement with
hypotheses a state and operands that meet them all. -/

namespace Sys2Proof.Tests

open Sys2Proof.Machine

/-- What `f` sees of a next state. -/
def after {α : Type} (r : Result) (f : State → α) : Option α :=
  match r with
  | .next s => some (f s)
  | .fault _ => none
  | .refused _ => none

/-- The reason of a refusal. -/
def reason (r : Result) : Option Refusal :=
  match r with
  | .next _ => none
  | .fault _ => none
  | .refused e => some e

/-- `n` bytes of the line buffer from offset `i`, as numbers. -/
def lbBytes (i n : Nat) (s : State) : List Nat := (List.range n).map (fun k => (slice s (i + k)))
where slice (s : State) (j : Nat) : Nat := if h : j < 304 then s.lb[j].toNat else 999

/-- The reset state with the line buffer full of one byte. -/
def filled (b : Byte) : State := State.reset.setLb (Vector.replicate 304 b)

/-- A state with the first control registers set. -/
def withRegs (rs : List Byte) (s : State) : State :=
  { s with reg := tabulate 16 (fun i => (rs[i]?).getD 0#8) }

/-- A state with a stretch of VRAM written. -/
def withVram (a : Nat) (bs : List Byte) (s : State) : State := { s with vram := s.vram.writeBytes a bs }

/-! ## Decoding, from the bytes of R75 -/

theorem test_decode_td_mode4 :
    decode [0x00#8, 0x10#8, 0x00#8, 0x00#8, 0xAA#8, 0xCC#8, 0xF0#8, 0x10#8] = .ok (.tdM4Norm 16#16 0xF0CCAA00#32 0x10#8, [])
    ∧ decode [0x01#8, 0x10#8, 0x00#8, 0x00#8, 0xAA#8, 0xCC#8, 0xF0#8, 0x10#8] = .ok (.tdM4Flip 16#16 0xF0CCAA00#32 0x10#8, [])
    ∧ decode [0x02#8, 0x10#8, 0x00#8, 0x00#8, 0x00#8, 0x00#8, 0x00#8, 0x10#8] = .ok (.tdM4NormBg 16#16 0#32 0x10#8, [])
    ∧ decode [0x03#8, 0x10#8, 0x00#8, 0x00#8, 0xAA#8, 0xCC#8, 0xF0#8, 0x10#8] = .ok (.tdM4FlipBg 16#16 0xF0CCAA00#32 0x10#8, [])
    ∧ decode [0x04#8, 0x10#8, 0x00#8, 0x00#8, 0xAA#8, 0xCC#8, 0xF0#8, 0x10#8] = .ok (.tdM4Dbl 16#16 0xF0CCAA00#32 0x10#8, []) :=
  ⟨rfl, rfl, rfl, rfl, rfl⟩

theorem test_decode_td_mode2 :
    decode [0x08#8, 0x10#8, 0x00#8, 0xA5#8, 0x07#8] = .ok (.tdM2Spr 16#16 0xA5#8 0x07#8, [])
    ∧ decode [0x0A#8, 0x10#8, 0x00#8, 0xA5#8, 0xF4#8] = .ok (.tdM2Bg 16#16 0xA5#8 0xF4#8, [])
    ∧ decode [0x0C#8, 0x10#8, 0x00#8, 0xA5#8, 0x07#8] = .ok (.tdM2SprDbl 16#16 0xA5#8 0x07#8, []) := ⟨rfl, rfl, rfl⟩

theorem test_decode_ss :
    decode [0x10#8, 0x12#8] = .ok (.ssM4Scan 18#8, []) ∧ decode [0x11#8] = .ok (.ssM4Draw, [])
    ∧ decode [0x12#8, 0x00#8] = .ok (.ssM2Scan 0#8, []) ∧ decode [0x13#8] = .ok (.ssM2Draw, []) := ⟨rfl, rfl, rfl, rfl⟩

theorem test_decode_sc :
    decode [0x20#8, 0x00#8, 0x38#8, 0x08#8, 0x00#8, 0x01#8, 0x1F#8, 0x07#8] = .ok (.scM4Low 0x3800#16 8#16 1#8 31#8 7#8, [])
    ∧ decode [0x21#8, 0x00#8, 0x38#8, 0x08#8, 0x00#8, 0x01#8, 0x1F#8, 0x07#8] = .ok (.scM4High 0x3800#16 8#16 1#8 31#8 7#8, [])
    ∧ decode [0x22#8, 0x4D#8] = .ok (.scM2Bg 77#8, []) := ⟨rfl, rfl, rfl⟩

theorem test_decode_ls :
    decode [0x30#8, 0x31#8] = .ok (.lsFrameStart, [0x31#8]) ∧ decode [0x31#8, 0x10#8] = .ok (.lsLineDraw 16#8, [])
    ∧ decode [0x32#8] = .ok (.lsBackfill, []) ∧ decode [0x33#8, 0x02#8] = .ok (.lsM4Display 2#8, [])
    ∧ decode [0x34#8, 0x09#8] = .ok (.lsM2Display 9#8, []) ∧ decode [0x35#8] = .ok (.lsMaskCol0, []) :=
  ⟨rfl, rfl, rfl, rfl, rfl, rfl⟩

theorem test_decode_pf :
    decode [0x40#8, 0x02#8] = .ok (.pfSelect 2#8, []) ∧ decode [0x41#8] = .ok (.pfRebuild, [])
    ∧ decode [0x42#8] = .ok (.pfFinalize, []) := ⟨rfl, rfl, rfl⟩

/-- PF-9 and R76: reserved bytes between the rows, and a stream that ends inside an operation. -/
theorem test_decode_rejects :
    decode [0x05#8] = .error (.reservedCommand 0x05#8) ∧ decode [0x23#8, 0x00#8] = .error (.reservedCommand 0x23#8)
    ∧ decode [0xFF#8] = .error (.reservedCommand 0xFF#8) ∧ decode [0x31#8] = .error .truncated := ⟨rfl, rfl, rfl, rfl⟩

/-- Table words: the command byte in bits 7:0 and operands of zeros. -/
theorem test_table_words :
    decodeTableWord 8 0x20 = some (.scM4Low 0#16 0#16 0#8 0#8 0#8) ∧ decodeTableWord 8 0x31 = some (.lsLineDraw 0#8)
    ∧ decodeTableWord 16 0x1231 = some (.lsLineDraw 0x12#8) ∧ decodeTableWord 8 0x07 = none := ⟨rfl, rfl, rfl, rfl⟩

/-- A fetch word runs exactly its operation, and the host's further actions stand behind it. -/
theorem test_fetch_word :
    step (State.reset.withFetchWord 8 0x30) = exec .lsFrameStart State.reset
    ∧ step (State.reset.withFetchWord 8 0x20) = exec (.scM4Low 0#16 0#16 0#8 0#8 0#8) State.reset := ⟨rfl, rfl⟩

/-! ## Well-formedness: an ill-formed term for each check (R70, R77) -/

theorem test_wf_refuses_td :
    (Instr.tdM4Norm 297#16 0#32 0#8).wf = false ∧ (Instr.tdM4Flip 297#16 0#32 0#8).wf = false
    ∧ (Instr.tdM4NormBg 297#16 0#32 0#8).wf = false ∧ (Instr.tdM4FlipBg 297#16 0#32 0#8).wf = false
    ∧ (Instr.tdM4Dbl 289#16 0#32 0#8).wf = false ∧ (Instr.tdM2Spr 297#16 0#8 0#8).wf = false
    ∧ (Instr.tdM2Bg 297#16 0#8 0#8).wf = false ∧ (Instr.tdM2SprDbl 289#16 0#8 0#8).wf = false := by decide

theorem test_wf_refuses_others :
    (Instr.ssM4Scan 240#8).wf = false ∧ (Instr.ssM2Scan 240#8).wf = false ∧ (Instr.scM4Low 0#16 0#16 34#8 0#8 0#8).wf = false
    ∧ (Instr.scM4Low 0#16 41#16 33#8 0#8 0#8).wf = false ∧ (Instr.scM4High 0#16 0#16 34#8 0#8 0#8).wf = false
    ∧ (Instr.scM4High 0#16 305#16 0#8 0#8 0#8).wf = false ∧ (Instr.scM2Bg 240#8).wf = false
    ∧ (Instr.lsLineDraw 240#8).wf = false ∧ (Instr.lsM4Display 240#8).wf = false ∧ (Instr.lsM2Display 240#8).wf = false
    ∧ (Instr.pfSelect 5#8).wf = false := by decide

/-- The last operands that pass. -/
theorem test_wf_boundaries :
    (Instr.tdM4Norm 296#16 0#32 0#8).wf = true ∧ (Instr.tdM4Dbl 288#16 0#32 0#8).wf = true
    ∧ (Instr.scM4Low 0#16 40#16 33#8 0#8 0#8).wf = true ∧ (Instr.lsLineDraw 239#8).wf = true
    ∧ (Instr.pfSelect 4#8).wf = true := by decide

/-! ## TD vectors -/

/-- TD-3. -/
theorem test_td3_norm : after (exec (.tdM4Norm 16#16 0xF0CCAA00#32 0x10#8) (filled 0xAA#8)) (lbBytes 16 8)
    = some [0x1E, 0x1C, 0x1A, 0x18, 0x16, 0x14, 0x12, 0xAA] := by decide +kernel

/-- TD-9: byte order of the word and pixel order. -/
theorem test_td9_norm : after (exec (.tdM4Norm 16#16 0x01020408#32 0x00#8) (filled 0xAA#8)) (lbBytes 16 8)
    = some [0xAA, 0xAA, 0xAA, 0xAA, 1, 2, 4, 8] := by decide +kernel

/-- TD-10. -/
theorem test_td10_flip : after (exec (.tdM4Flip 16#16 0xF0CCAA00#32 0x10#8) (filled 0xAA#8)) (lbBytes 16 8)
    = some [0xAA, 0x12, 0x14, 0x16, 0x18, 0x1A, 0x1C, 0x1E] := by decide +kernel

/-- TD-6. -/
theorem test_td6_norm_bg : after (exec (.tdM4NormBg 16#16 0#32 0x10#8) (filled 0xAA#8)) (lbBytes 15 10)
    = some [0xAA, 0x10, 0x10, 0x10, 0x10, 0x10, 0x10, 0x10, 0x10, 0xAA] := by decide +kernel

/-- TD-8. -/
theorem test_td8_norm_bg : after (exec (.tdM4NormBg 16#16 0x80000000#32 0x10#8) (filled 0xAA#8)) (lbBytes 16 8)
    = some [0x18, 0x10, 0x10, 0x10, 0x10, 0x10, 0x10, 0x10] := by decide +kernel

/-- TD-12. -/
theorem test_td12_flip_bg : after (exec (.tdM4FlipBg 16#16 0xF0CCAA00#32 0x10#8) (filled 0xAA#8)) (lbBytes 16 8)
    = some [0x10, 0x12, 0x14, 0x16, 0x18, 0x1A, 0x1C, 0x1E] := by decide +kernel

/-- TD-15. -/
theorem test_td15_dbl : after (exec (.tdM4Dbl 16#16 0x01020408#32 0x10#8) (filled 0xAA#8)) (lbBytes 22 10)
    = some [0xAA, 0xAA, 0x11, 0x11, 0x12, 0x12, 0x14, 0x14, 0x18, 0x18] := by decide +kernel

/-- TD-16. -/
theorem test_td16_bg2 : after (exec (.tdM2Bg 16#16 0xA5#8 0xF4#8) (filled 0xAA#8)) (lbBytes 16 8)
    = some [0x0F, 0x04, 0x0F, 0x04, 0x04, 0x0F, 0x04, 0x0F] := by decide +kernel

/-- TD-18. -/
theorem test_td18_spr2 : after (exec (.tdM2Spr 16#16 0xA5#8 0x07#8) (filled 0xAA#8)) (lbBytes 16 8)
    = some [7, 0xAA, 7, 0xAA, 0xAA, 7, 0xAA, 7] := by decide +kernel

/-- TD-19b: bits 7:4 of the colour are ignored, and colour 0 writes nothing. -/
theorem test_td19b_spr2 : after (exec (.tdM2Spr 16#16 0xFF#8 0xF0#8) (filled 0xAA#8)) (lbBytes 16 2)
    = some [0xAA, 0xAA] := by decide +kernel

/-- TD-19c. -/
theorem test_td19c_spr2_dbl : after (exec (.tdM2SprDbl 16#16 0xA5#8 0x07#8) (filled 0xAA#8)) (lbBytes 16 16)
    = some [7, 7, 0xAA, 0xAA, 7, 7, 0xAA, 0xAA, 0xAA, 0xAA, 7, 7, 0xAA, 0xAA, 7, 7] := by decide +kernel

/-- D49: one past the range is refused. -/
theorem test_td_range : reason (exec (.tdM4Norm 297#16 0#32 0#8) State.reset) = some .operandOutOfRange := by decide

/-! ## SS vectors -/

/-- The start of the SS4 vectors: mode 4, table at 0x3F00, sprite patterns at 0x2000, 192 lines. -/
def spriteStart (r0 r1 : Byte) : State :=
  withRegs [r0, r1, 0#8, 0#8, 0#8, 0x7E#8, 0x04#8] State.reset

/-- SS4-1. -/
theorem test_ss4_1_scan :
    after (exec (.ssM4Scan 18#8)
        (withVram 0x3F80 [0x20#8, 0x03#8] (withVram 0x3F00 [0x0F#8, 0xD0#8] (spriteStart 0x04#8 0x40#8))))
      (fun s => (s.nslot.val, (slotAt s 0).x, (slotAt s 0).addr.toNat, s.status.toNat))
    = some (1, 40, 0x2068, 0) := by decide +kernel

/-- SS4-6: the ninth sprite overflows, eight are kept, and both flags are set. -/
theorem test_ss4_6_overflow :
    after (exec (.ssM4Scan 16#8) (withVram 0x3F00 (List.replicate 10 0x0F#8) (spriteStart 0x04#8 0x40#8)))
      (fun s => (s.nslot.val, s.status.toNat)) = some (8, 0x60) := by decide +kernel

/-- SS4-22: the lower slot's pixels lie over the higher one's. -/
theorem test_ss4_22_draw :
    after (exec .ssM4Draw
        { withVram 0x2004 [0xFF#8] (withVram 0x2020 [0xFF#8, 0xFF#8] (spriteStart 0x04#8 0x40#8)) with
          lb := Vector.replicate 304 0x10#8, nslot := 2,
          slot := tabulate 8 (fun k => if k = 0 then ⟨24, 0x2004#14, none⟩ else ⟨28, 0x2020#14, none⟩) })
      (lbBytes 24 16)
    = some [0x11, 0x11, 0x11, 0x11, 0x11, 0x11, 0x11, 0x11, 0x13, 0x13, 0x13, 0x13, 0x10, 0x10, 0x10, 0x10] := by
  decide +kernel

/-- R113, zoomed: the pixels of SS4-23's second sprite, doubled. -/
theorem test_ss4_23_draw_zoomed :
    after (exec .ssM4Draw
        { withVram 0x2000 [0xF0#8] (spriteStart 0x04#8 0x41#8) with
          lb := Vector.replicate 304 0x10#8, nslot := 1,
          slot := Vector.replicate 8 ⟨24, 0x2000#14, none⟩ })
      (lbBytes 24 10)
    = some [0x11, 0x11, 0x11, 0x11, 0x11, 0x11, 0x11, 0x11, 0x10, 0x10] := by decide +kernel

/-- SS2-5: the fifth sprite, entry 6, overflows and its index is recorded. -/
theorem test_ss2_5_overflow :
    after (exec (.ssM2Scan 16#8)
        (withVram 0x1B00
          [0x0F#8, 0x00#8, 0x00#8, 0x01#8, 0x0F#8, 0x08#8, 0x01#8, 0x02#8, 0x0F#8, 0x10#8, 0x02#8, 0x03#8,
           0x80#8, 0x00#8, 0x00#8, 0x00#8, 0x0F#8, 0x64#8, 0x09#8, 0x05#8, 0x80#8, 0x00#8, 0x00#8, 0x00#8,
           0x0F#8, 0x78#8, 0x09#8, 0x05#8]
          (withRegs [0x02#8, 0x40#8, 0#8, 0#8, 0#8, 0x36#8, 0x07#8] State.reset)))
      (fun s => (s.nslot.val, (slotAt s 3).x, (slotAt s 3).addr.toNat, (slotAt s 3).colour, s.status.toNat))
    = some (4, 108, 0x3848, some 5#4, 0x66) := by decide +kernel

/-- SS2-3: a sprite at y = -31, 32 lines high, shows its last row on line 0. -/
theorem test_ss2_3_negative_y :
    after (exec (.ssM2Scan 0#8)
        (withVram 0x1B00 [0xE0#8, 0x10#8, 0x02#8, 0x0F#8]
          (withRegs [0x02#8, 0x43#8, 0#8, 0#8, 0#8, 0x36#8, 0x07#8] State.reset)))
      (fun s => ((slotAt s 0).x, (slotAt s 0).addr.toNat, (slotAt s 0).colour))
    = some (24, 0x380F, some 15#4) := by decide +kernel

/-- The start of SS2-11 to SS2-14: 16x16 sprites, one slot at the given x. -/
def sprite16 (x : Int) : State :=
  { withVram 0x3810 [0x81#8] (withVram 0x3820 [0xC3#8]
      (withRegs [0x02#8, 0x42#8, 0#8, 0#8, 0#8, 0x36#8, 0x07#8] (filled 0x04#8))) with
    nslot := 1, slot := Vector.replicate 8 ⟨x, 0x3810#14, some 15#4⟩ }

/-- SS2-11. -/
theorem test_ss2_11_draw : after (exec .ssM2Draw (sprite16 40)) (lbBytes 40 16)
    = some [15, 4, 4, 4, 4, 4, 4, 15, 15, 15, 4, 4, 4, 4, 15, 15] := by decide +kernel

/-- SS2-13: the first half, at x = -4, is dropped whole. -/
theorem test_ss2_13_draw : after (exec .ssM2Draw (sprite16 (-4))) (lbBytes 0 16)
    = some [4, 4, 4, 4, 15, 15, 4, 4, 4, 4, 15, 15, 4, 4, 4, 4] := by decide +kernel

/-! ## SC vectors -/

/-- The start of the SC vectors: tile 1 row 0, and a name-table entry at 0x3800. -/
def stripStart (lo hi : Byte) (b : Byte) : State :=
  withVram 0x0020 [0x00#8, 0xAA#8, 0xCC#8, 0xF0#8] (withVram 0x3800 [lo, hi] (filled b))

/-- SC-1. -/
theorem test_sc1_low : after (exec (.scM4Low 0x3800#16 8#16 1#8 0#8 0#8) (stripStart 0x01#8 0x08#8 0x10#8)) (lbBytes 8 8)
    = some [0x1E, 0x1C, 0x1A, 0x18, 0x16, 0x14, 0x12, 0x10] := by decide +kernel

/-- SC-10: column 31, then column 0 of the same row. -/
theorem test_sc10_low_wraps :
    after (exec (.scM4Low 0x3800#16 8#16 2#8 31#8 0#8) (withVram 0x383E [0x01#8, 0x08#8] (stripStart 0x01#8 0x00#8 0x10#8)))
      (lbBytes 8 16)
    = some [0x1E, 0x1C, 0x1A, 0x18, 0x16, 0x14, 0x12, 0x10, 14, 12, 10, 8, 6, 4, 2, 0] := by decide +kernel

/-- SC-6: priority, second palette, mirrored: the zero pixel keeps the byte below. -/
theorem test_sc6_high : after (exec (.scM4High 0x3800#16 8#16 1#8 0#8 0#8) (stripStart 0x01#8 0x1A#8 0x1F#8)) (lbBytes 8 8)
    = some [0x1F, 0x12, 0x14, 0x16, 0x18, 0x1A, 0x1C, 0x1E] := by decide +kernel

/-- SC-2: the high pass skips a tile without priority. -/
theorem test_sc2_high_skips : after (exec (.scM4High 0x3800#16 8#16 1#8 0#8 0#8) (stripStart 0x01#8 0x08#8 0x10#8)) (lbBytes 8 2)
    = some [0x10, 0x10] := by decide +kernel

/-- SC-21: the middle third, name row 9, the last column. -/
theorem test_sc21_background2 :
    after (exec (.scM2Bg 77#8)
        (withVram 0x393F [0x12#8] (withVram 0x2895 [0x3C#8] (withVram 0x0895 [0x21#8]
          (withRegs [0#8, 0#8, 0x0E#8, 0x00#8, 0x07#8] (filled 0x09#8))))))
      (lbBytes 256 9)
    = some [1, 1, 2, 2, 2, 2, 1, 1, 9] := by decide +kernel

/-! ## LS vectors -/

/-- LS-1 and LS-8: 224 lines, and the host told once. -/
theorem test_ls_frame_start :
    after (exec .lsFrameStart (withRegs [0x06#8, 0x50#8] State.reset))
      (fun s => (s.lines, s.screenOffset, s.outRow, s.modeChanged, s.calls))
    = some (224, 8, 8, false, [.geometryChange ⟨8, 224, 0, 32⟩]) := by decide +kernel

/-- LS-3. -/
theorem test_ls3_backfill :
    after (exec .lsBackfill (withRegs [0x04#8, 0#8, 0#8, 0#8, 0#8, 0#8, 0#8, 0xF3#8] State.reset))
      (fun s => (lbBytes 0 1 s, lbBytes 303 1 s)) = some ([0x13], [0x13]) := by decide +kernel

/-- LS-4. -/
theorem test_ls4_mask : after (exec .lsMaskCol0 (withRegs [0x24#8] (filled 0x13#8))) (lbBytes 7 10)
    = some [0x13, 0xE0, 0xE0, 0xE0, 0xE0, 0xE0, 0xE0, 0xE0, 0xE0, 0x13] := by decide +kernel

/-- LS-2, the row with `reg[8] = 0B`, `reg[9] = 05`, line 3. -/
theorem test_ls2_scroll : scrollOf (withRegs [0x06#8, 0x40#8, 0xFF#8, 0#8, 0#8, 0#8, 0#8, 0#8, 0x0B#8, 0x05#8] State.reset) 3
    = { rowS := 0x3840, rowF := 0x3800, tyS := 0, tyF := 3, col0 := 30, dx := 3, cells := 33 } := by decide +kernel

/-- LS-2, the tall row with `reg[9] = DC`, line 10. -/
theorem test_ls2_scroll_tall : scrollOf (withRegs [0x06#8, 0x50#8, 0xFF#8, 0#8, 0#8, 0#8, 0#8, 0#8, 0x00#8, 0xDC#8] State.reset) 10
    = { rowS := 0x3E00, rowF := 0x3740, tyS := 6, tyF := 2, col0 := 0, dx := 8, cells := 32 } := by decide +kernel

/-- R157 with the background and the foreground killed: the sprites alone. -/
theorem test_ls_display_m4_sprites :
    after (exec (.lsM4Display 18#8)
        { withVram 0x2068 [0xFF#8] (withVram 0x3F80 [0x20#8, 0x03#8] (withVram 0x3F00 [0x0F#8, 0xD0#8] (spriteStart 0x04#8 0x40#8)))
          with kill := 5#3 })
      (lbBytes 39 10) = some [0, 0x11, 0x11, 0x11, 0x11, 0x11, 0x11, 0x11, 0x11, 0] := by decide +kernel

/-- R160 with the background killed: the slot of SS2-4b, drawn at once. -/
theorem test_ls_display_m2_sprites :
    after (exec (.lsM2Display 0#8)
        { withVram 0x3810 [0xA5#8] (withVram 0x1B00 [0xFF#8, 0x00#8, 0x02#8, 0x0F#8, 0xD0#8]
            (withRegs [0x02#8, 0x40#8, 0#8, 0#8, 0#8, 0x36#8, 0x07#8] State.reset)) with kill := 1#3 })
      (lbBytes 8 8) = some [15, 0, 15, 0, 0, 15, 0, 15] := by decide +kernel

/-- A state in which LS.LINE_DRAW is legal: INTERNAL format, a 192-line frame begun. -/
def lineStart (regs : List Byte) : State :=
  { withRegs regs State.reset with
    fmt := .internal, modeChanged := false, lines := 192, screenOffset := 24, outRow := 24,
    notified := some ⟨24, 192, 0, 32⟩, order := .inFrame 0 }

/-- LS-5 (in INTERNAL format): a blanked line is the backdrop with the mask. -/
theorem test_ls5_blanked_line :
    after (exec (.lsLineDraw 5#8) (lineStart [0x24#8, 0#8, 0#8, 0#8, 0#8, 0#8, 0#8, 0xF3#8]))
      (fun s => (lbBytes 7 2 s, lbBytes 15 2 s, s.outRow, s.status.toNat))
    = some ([0x13, 0xE0], [0xE0, 0x13], 25, 0) := by decide +kernel

/-- LS-7: `scan_begin` answers 3, `scan_end` answers 1. -/
theorem test_ls7_hooks :
    after (exec (.lsLineDraw 0#8) { lineStart [] with hookBegin := 3, hookEnd := 1 })
      (fun s => (s.skipCount, s.outRow, s.calls)) = some (1, 25, [.scanEnd 0, .scanBegin 0]) := by decide +kernel

/-! ## PF vectors -/

/-- The state in a block whose frames end at their last line (R170). -/
def endsAtLastLine (s : State) : State := { s with params := { s.params with frameEnd := .atLastLine } }

/-- PF-9: a reserved code, and the codes' formats. -/
theorem test_pf_select :
    reason (exec (.pfSelect 5#8) State.reset) = some .reservedFormatCode
    ∧ after (exec (.pfSelect 3#8) State.reset) (fun s => (s.fmt, s.modeChanged)) = some (.bgr565, true) := by decide +kernel

/-- R215, R170: PF.SELECT is refused after a line of the frame; after the last of 192 it runs where the frame ends there. -/
theorem test_pf_select_window :
    reason (exec (.pfSelect 1#8) { lineStart [] with order := .inFrame 1 }) = some .selectInMidFrame
    ∧ reason (exec (.pfSelect 1#8) { lineStart [] with order := .inFrame 192 }) = some .selectInMidFrame
    ∧ reason (exec (.pfSelect 1#8) (endsAtLastLine { lineStart [] with order := .inFrame 191 })) = some .selectInMidFrame
    ∧ after (exec (.pfSelect 1#8) (endsAtLastLine { lineStart [] with order := .inFrame 192 })) (fun s => (s.fmt, s.order))
      = some (.rgb565, .noFrame) := by
  decide +kernel

/-- R212, R222: no line is drawn after PF.SELECT until LS.FRAME_START, and a skipped line counts as issued. -/
theorem test_pf_select_owes_frame_start :
    after (exec (.lsLineDraw 1#8) { lineStart [] with skipCount := 1, order := .inFrame 191 })
      (fun s => (s.skipCount, s.order)) = some (0, .inFrame 192)
    ∧ reason (andThen (exec (.pfSelect 1#8) (lineStart [])) (exec (.lsLineDraw 1#8))) = some .frameNotStarted := by
  decide +kernel

/-- PF-1 and PF-4: one table entry in each colour-RAM format, and entry 0xE0. -/
theorem test_pf1_rebuild :
    after (exec .pfRebuild
        { withRegs [0x04#8] State.reset with fmt := .rgb565, cram := tabulate 32 (fun i => if i = 7 then 0x1B#16 else 0x3F#16) })
      (fun s => (s.lut[7].toNat, s.lut[0x27].toNat, s.lut[0xE0].toNat, s.dirty, s.rebuildCount))
    = some (0xFD4A, 0xFD4A, 0, false, 1) := by decide +kernel

/-- PF-7: the mode-2 palette, index 9, in BGR555 and a Game Gear entry ignored. -/
theorem test_pf7_rebuild_mode2 :
    after (exec .pfRebuild { withRegs [0x02#8] State.reset with fmt := .bgr555 })
      (fun s => (s.lut[9].toNat, s.lut[0x14].toNat)) = some (0x001F, 0x2800) := by decide +kernel

/-- PF-8: direct colour with a clean table. -/
theorem test_pf8_finalize :
    after (exec .pfFinalize
        { filled 0x13#8 with fmt := .rgb565, dirty := false, outRow := 30,
                             lut := tabulate 256 (fun i => if i = 0x13 then 0x001F#16 else 0#16) })
      (fun s => (match readRow s.out 30 with | some (.direct px) => px[0].toNat | _ => 0, s.rebuildCount))
    = some (0x001F, 0) := by decide +kernel

/-- R177 before any PF.SELECT: refused. -/
theorem test_pf_finalize_unselected : reason (exec .pfFinalize State.reset) = some .noFormatSelected := by decide +kernel

/-! ## The host's actions -/

/-- R79: a register write, then the block idles. -/
theorem test_host_register :
    after (step { State.reset with host := [.reg 7 0xF3#8] }) (fun s => (s.reg[7].toNat, s.host.length)) = some (0xF3, 0) := by
  decide +kernel

/-- R79 and R40: `.vram16` stores the low byte first, and a zero removes its cell. -/
theorem test_host_vram16 :
    after (step { State.reset with host := [.vram16 0x3FFF#14 [0x1234#16, 0x0000#16]] }) (fun s => s.vram)
    = some [(0, 0x12#8), (0x3FFF, 0x34#8)] := by decide +kernel

end Sys2Proof.Tests
end

