-- ==== Sys2Proof/Tests/Witnesses.lean ====
section
/-! SUPPORT. For every statement with hypotheses, a state and operands that meet all of them; where a statement has several
clauses, one for each, at the edge of its range. Each theorem is named after its statement. -/

namespace Sys2Proof.Tests

open Sys2Proof.Machine

/-- The result is a next state. -/
def isNext (r : Result) : Bool :=
  match r with
  | .next _ => true
  | .fault _ => false
  | .refused _ => false

theorem completes_of_isNext {r : Result} (h : isNext r = true) : ∃ t, r = .next t := by
  cases r with
  | next t => exact ⟨t, rfl⟩
  | fault e => cases e
  | refused e => simp [isNext] at h

/-- A fresh block on which the host has issued LS.FRAME_START. -/
def freshFrame : State := { State.reset with host := [.issue [0x30#8]] }

theorem freshFrame_inv : freshFrame.Inv where
  vramWf := rfl
  outWf := rfl
  slotRange := by intro k h; simp [freshFrame, State.reset, Slot.empty]
  modeChanged := by simp [freshFrame, State.reset]
  geometry := by simp [freshFrame, State.reset]
  told := by simp [freshFrame, State.reset]
  skipping := by simp [freshFrame, State.reset]
  format := by simp [freshFrame, State.reset]
  row := by simp [freshFrame, State.reset]

theorem witness_StepKeepsInvariant : ∃ s t, State.Inv s ∧ step s = .next t :=
  ⟨freshFrame, _, freshFrame_inv, rfl⟩

theorem witness_EncodeOfDecode : ∃ bs rest i, decode bs = .ok (i, rest) :=
  ⟨[0x31#8, 0x02#8, 0x30#8], [0x30#8], .lsLineDraw 2#8, rfl⟩

theorem witness_ReservedCommandsRefused : ∃ (s : State) (cmd : Byte) (bs : List Byte) (h : List HostAction),
    cmd.toNat ∉ [0x00, 0x01, 0x02, 0x03, 0x04, 0x08, 0x0A, 0x0C, 0x10, 0x11, 0x12, 0x13, 0x20, 0x21, 0x22, 0x30, 0x31,
      0x32, 0x33, 0x34, 0x35, 0x40, 0x41, 0x42] ∧ s.host = .issue (cmd :: bs) :: h :=
  ⟨{ State.reset with host := [.issue [0x43#8, 0x00#8], .dirty] }, 0x43#8, [0x00#8], [.dirty], by decide, rfl⟩

theorem witness_TruncatedOperationsRefused : ∃ (s : State) (i : Instr) (k : Nat) (h : List HostAction),
    0 < k ∧ k < (encode i).length ∧ s.host = .issue ((encode i).take k) :: h :=
  ⟨{ State.reset with host := [.issue [0x31#8]] }, .lsLineDraw 2#8, 1, [], by decide, by decide, rfl⟩

theorem witness_StepRunsTheDecodedOperation : ∃ (s : State) (b : Byte) (bs rest : List Byte) (h : List HostAction) (i : Instr),
    s.host = .issue (b :: bs) :: h ∧ decode (b :: bs) = .ok (i, rest) ∧ rest ≠ [] :=
  ⟨{ State.reset with host := [.issue [0x30#8, 0x32#8]] }, 0x30#8, [0x32#8], [0x32#8], [], .lsFrameStart, rfl, rfl, by decide⟩

theorem witness_IdleStepKeepsEverything : ∃ s : State, s.host = [] := ⟨State.reset, rfl⟩

theorem witness_MemoryReadAfterWrite : ∃ (m : Memory) (a : Nat), m.wf = true ∧ a < 0x4000 ∧ m ≠ [] :=
  ⟨[(0, 1#8), (0x3FFF, 2#8)], 0x3FFF, by decide, by decide, by decide⟩

/-- One witness for each of the three directives, the last address of VRAM and the first written. -/
theorem witness_HostVramWritesLand :
    (∃ (s : State) (a : BitVec 14) (bs : List Byte),
      s.vram.wf = true ∧ bs.length ≤ 0x4000 ∧ s.host = [.vram a bs] ∧ bs.length = 2)
    ∧ (∃ (s : State) (a : BitVec 14) (bs : List Byte) (ws : List Half), s.vram.wf = true ∧ bs.length ≤ 0x4000
      ∧ s.host = [.vram16 a ws] ∧ bs = ws.flatMap (fun w : Half => [w.setWidth 8, (w >>> 8).setWidth 8]) ∧ bs.length = 2)
    ∧ ∃ (s : State) (a : BitVec 14) (bs : List Byte) (n : Nat) (b : Byte), s.vram.wf = true ∧ bs.length ≤ 0x4000
      ∧ s.host = [.vramFill a n b] ∧ bs = List.replicate n b ∧ bs.length = 2 :=
  ⟨⟨{ State.reset with host := [.vram 0x3FFF#14 [1#8, 2#8]] }, 0x3FFF#14, [1#8, 2#8], rfl, by decide, rfl, rfl⟩,
   ⟨{ State.reset with host := [.vram16 0x3FFF#14 [0x0201#16]] }, 0x3FFF#14, [1#8, 2#8], [0x0201#16], rfl, by decide, rfl,
    by decide, rfl⟩,
   ⟨{ State.reset with host := [.vramFill 0x3FFF#14 2 3#8] }, 0x3FFF#14, [3#8, 3#8], 2, 3#8, rfl, by decide, rfl, rfl, rfl⟩⟩

/-- One witness for each clause of the statement. -/
theorem witness_HostDirectivesTakeEffect :
    (∃ (s : State) (n : Fin 16) (v : Byte), s.host = [.reg n v])
    ∧ (∃ (s : State) (i : Fin 32) (vs : List Half), vs.length ≤ 32 ∧ vs ≠ [] ∧ s.host = [.cram i vs])
    ∧ (∃ s : State, s.host = [.dirty]) ∧ (∃ (s : State) (v : BitVec 3), s.host = [.kill v])
    ∧ (∃ (s : State) (v : Byte), s.host = [.status v]) ∧ (∃ (s : State) (b e : Nat), s.host = [.hooks b e]) :=
  ⟨⟨{ State.reset with host := [.reg 15 1#8] }, 15, 1#8, rfl⟩,
   ⟨{ State.reset with host := [.cram 31 [1#16, 2#16]] }, 31, [1#16, 2#16], by decide, by decide, rfl⟩,
   ⟨{ State.reset with host := [.dirty] }, rfl⟩, ⟨{ State.reset with host := [.kill 7#3] }, 7#3, rfl⟩,
   ⟨{ State.reset with host := [.status 0x85#8] }, 0x85#8, rfl⟩, ⟨{ State.reset with host := [.hooks 3 1] }, 3, 1, rfl⟩⟩

/-- The witness for the four statements whose one hypothesis is that an operation completes. -/
theorem witness_OperationsKeepHostState : ∃ i s t, exec i s = .next t := ⟨.lsFrameStart, State.reset, _, rfl⟩

/-- A scan of the right kind, and an operation that scans nothing. -/
theorem witness_StatusIsOnlyOred :
    (∃ i s t, exec i s = .next t ∧ scansSprites i = false)
    ∧ ∃ line s t, exec (.ssM4Scan line) s = .next t :=
  ⟨⟨.lsFrameStart, State.reset, _, rfl, rfl⟩, ⟨0#8, State.reset, _, rfl⟩⟩

theorem witness_StatusIsNeverRead :
    (∃ i s t, exec i s = .next t) ∧ ∃ i s r, exec i s = .refused r :=
  ⟨⟨.lsFrameStart, State.reset, _, rfl⟩, ⟨.pfRebuild, State.reset, _, rfl⟩⟩

theorem witness_UnnamedRegisterBitsAreNeverRead : ∃ (s : State) (r : Vector Byte 16), r ≠ s.reg ∧
    ∀ n, (h : n < 16) → r[n] &&& namedBits[n] = s.reg[n] &&& namedBits[n] :=
  ⟨State.reset, #v[0x11#8, 0xA4#8, 0xF0#8, 0x7F#8, 0xFB#8, 0x80#8, 0xF8#8, 0xF0#8, 0#8, 0#8, 1#8, 2#8, 3#8, 4#8, 5#8, 0xFF#8],
    by decide, by decide⟩

/-- One witness for each clause: an operation outside each group of writers. -/
theorem witness_WorkingStateHasItsWriters :
    (∃ i s t, exec i s = .next t ∧ drawsPixels i = false) ∧ (∃ i s t, exec i s = .next t ∧ writesOut i = false)
    ∧ (∃ i s t, exec i s = .next t ∧ rebuildsLut i = false) ∧ (∃ i s t, exec i s = .next t ∧ scansSprites i = false)
    ∧ (∃ i s t, exec i s = .next t ∧ i ≠ .lsFrameStart ∧ (∀ c, i ≠ .pfSelect c) ∧ (∀ l, i ≠ .lsLineDraw l) ∧ i ≠ .ssM2Draw) :=
  ⟨⟨.lsFrameStart, State.reset, _, rfl, rfl⟩, ⟨.lsFrameStart, State.reset, _, rfl, rfl⟩,
   ⟨.lsFrameStart, State.reset, _, rfl, rfl⟩, ⟨.lsFrameStart, State.reset, _, rfl, rfl⟩,
   ⟨.lsBackfill, State.reset, _, rfl, by decide, by simp, by simp, by decide⟩⟩

theorem witness_IllFormedOperationsRefused : ∃ i : Instr, i.wf = false := ⟨.pfSelect 5#8, rfl⟩

theorem witness_TransparentTileFormsDraw : ∃ sx : Half, sx.toNat + 8 ≤ 304 := ⟨296#16, by decide⟩
theorem witness_BackgroundTileFormsDraw : ∃ sx : Half, sx.toNat + 8 ≤ 304 := ⟨296#16, by decide⟩
theorem witness_DoubleWidthTileFormDraws : ∃ sx : Half, sx.toNat + 16 ≤ 304 := ⟨288#16, by decide⟩
theorem witness_LegacyBackgroundFormDraws : ∃ sx : Half, sx.toNat + 8 ≤ 304 := ⟨296#16, by decide⟩

/-- One witness for each of the two forms. -/
theorem witness_LegacySpriteFormsDraw : (∃ sx : Half, sx.toNat + 8 ≤ 304) ∧ ∃ sx : Half, sx.toNat + 16 ≤ 304 :=
  ⟨⟨296#16, by decide⟩, ⟨288#16, by decide⟩⟩

theorem witness_PixelBitsOfPackedRows : (∃ k : Nat, k < 4) ∧ ∃ p k : Nat, p < 8 ∧ k < 4 :=
  ⟨⟨3, by decide⟩, 7, 3, by decide, by decide⟩
theorem witness_MultiplyTrickGivesPixel : ∃ p : Nat, p < 8 := ⟨7, by decide⟩
theorem witness_PixelRowsAreInBijection : ∃ p : Nat, p < 8 := ⟨7, by decide⟩

theorem witness_TileModeScanFillsSlots : ∃ line : Byte, line.toNat < 240 := ⟨239#8, by decide⟩
theorem witness_LegacyScanFillsSlots : ∃ line : Byte, line.toNat < 240 := ⟨239#8, by decide⟩
theorem witness_LegacyBackgroundDrawsWindow : ∃ line : Byte, line.toNat < 240 := ⟨239#8, by decide⟩
theorem witness_TileModeDisplayRunsLayersInOrder : ∃ line : Byte, line.toNat < 240 := ⟨239#8, by decide⟩
theorem witness_LegacyDisplayRunsLayersInOrder : ∃ line : Byte, line.toNat < 240 := ⟨239#8, by decide⟩

theorem witness_DisplaysComplete : ∃ (line : Byte) (s : State) (i : Instr),
    line.toNat < 240 ∧ (i = .lsM4Display line ∨ i = .lsM2Display line) ∧ s.kill.getLsbD 1 = true :=
  ⟨239#8, { State.reset with kill := 2#3 }, .lsM2Display 239#8, by decide, .inr rfl, by decide⟩

/-- One sprite at the last offset that fits. -/
theorem witness_TileModeDrawPutsLowestSlotOnTop : ∃ s : State, SlotsFit4 s ∧ s.nslot.val = 1 := by
  refine ⟨{ State.reset with nslot := 1, slot := Vector.replicate 8 ⟨296, 0#14, none⟩ }, ?_, rfl⟩
  intro k hk
  have : k = 0 := by simpa using hk
  subst this
  decide

/-- One wide sprite whose first half is dropped and whose slot has a colour, and a slot without one. -/
theorem witness_LegacyDrawPutsLowestSlotOnTop :
    (∃ s : State, SlotsFit2 s ∧ s.nslot.val = 1 ∧ (∀ k, k < s.nslot.val → (slotAt s k).colour ≠ none))
    ∧ ∃ s : State, SlotsFit2 s ∧ s.nslot.val = 1 ∧ (slotAt s 0).colour = none := by
  refine ⟨⟨sprite16 (-4), ?_, rfl, ?_⟩,
    ⟨{ State.reset with nslot := 1, slot := Vector.replicate 8 ⟨296, 0#14, none⟩ }, ?_, rfl, by decide⟩⟩
  · intro k hk
    have : k = 0 := by
      have h1 : (sprite16 (-4)).nslot.val = 1 := rfl
      omega
    subst this
    decide +kernel
  · intro k hk
    have : k = 0 := by
      have h1 : (sprite16 (-4)).nslot.val = 1 := rfl
      omega
    subst this
    decide +kernel
  · intro k hk
    have : k = 0 := by simpa using hk
    subst this
    decide

theorem witness_LowPassDrawsWholeColumns : ∃ (dx : Half) (n : Byte), n.toNat ≤ 33 ∧ dx.toNat + 8 * n.toNat ≤ 304 :=
  ⟨40#16, 33#8, by decide, by decide⟩

theorem witness_HighPassDrawsNonzeroPixels : ∃ (dx : Half) (n : Byte), n.toNat ≤ 33 ∧ dx.toNat + 8 * n.toNat ≤ 304 :=
  ⟨40#16, 33#8, by decide, by decide⟩

/-- One witness for each clause of the table. -/
theorem witness_FrameGeometryTable :
    (∃ s : State, s.reg[0].getLsbD 2 = true ∧ s.reg[0].getLsbD 1 = true ∧ s.reg[1].getLsbD 4 = true ∧ s.reg[1].getLsbD 3 = false)
    ∧ (∃ s : State, s.reg[0].getLsbD 2 = true ∧ s.reg[0].getLsbD 1 = true ∧ s.reg[1].getLsbD 4 = false ∧ s.reg[1].getLsbD 3 = true)
    ∧ ∃ s : State, ¬(s.reg[0].getLsbD 2 = true ∧ s.reg[0].getLsbD 1 = true ∧ s.reg[1].getLsbD 4 ≠ s.reg[1].getLsbD 3) :=
  ⟨⟨withRegs [0x06#8, 0x50#8] State.reset, by decide +kernel⟩, ⟨withRegs [0x06#8, 0x48#8] State.reset, by decide +kernel⟩,
   ⟨withRegs [0x06#8, 0x58#8] State.reset, by decide +kernel⟩⟩

/-- A frame start that notifies, and one that does not. -/
theorem witness_FrameStartLatchesAndNotifies :
    (∃ s : State, s.modeChanged = true)
    ∧ ∃ s : State, s.modeChanged = false
        ∧ s.notified = some ⟨(frameGeometry s).2, (frameGeometry s).1, s.params.coffset, s.params.columns⟩ :=
  ⟨⟨State.reset, rfl⟩, ⟨lineStart [], rfl, by decide +kernel⟩⟩

theorem lineStart_ready (regs : List Byte) : Ready (.lsLineDraw 5#8) (lineStart regs) :=
  ⟨by show 5 < 192; decide, by simp [lineStart], by simp [lineStart]⟩

theorem witness_ScrollMovesPictureRight : ∃ x : Nat, x < 256 := ⟨255, by decide⟩

/-- A line that is skipped, and one that is drawn. -/
theorem witness_LineDrawRunsItsSteps :
    (∃ (line : Byte) (s : State), line.toNat < 240 ∧ Ready (.lsLineDraw line) s ∧ 0 < s.skipCount)
    ∧ ∃ (line : Byte) (s : State), line.toNat < 240 ∧ Ready (.lsLineDraw line) s ∧ ¬ 0 < s.skipCount :=
  ⟨⟨5#8, { lineStart [] with skipCount := 1 }, by decide, ⟨by decide, by simp [lineStart], by simp [lineStart]⟩, by decide⟩,
   ⟨5#8, lineStart [], by decide, lineStart_ready [], Nat.lt_irrefl 0⟩⟩

theorem witness_DrawnLineCompletes : ∃ (line : Byte) (s : State),
    line.toNat < 240 ∧ Ready (.lsLineDraw line) s ∧ s.skipCount = 0 :=
  ⟨5#8, lineStart [], by decide, lineStart_ready [], rfl⟩

theorem witness_DrawnLineBytesAreIndices : ∃ line s t, State.skipCount s = 0 ∧ exec (.lsLineDraw line) s = .next t :=
  (completes_of_isNext (r := exec (.lsLineDraw 5#8) (lineStart [])) (by decide +kernel)).elim
    (fun t ht => ⟨5#8, lineStart [], t, rfl, ht⟩)

theorem witness_DrawnLineIsMasked : ∃ line s t, State.skipCount s = 0 ∧ s.reg[0].getLsbD 5 = true
    ∧ exec (.lsLineDraw line) s = .next t :=
  (completes_of_isNext (r := exec (.lsLineDraw 5#8) (lineStart [0x24#8])) (by decide +kernel)).elim
    (fun t ht => ⟨5#8, lineStart [0x24#8], t, rfl, by decide +kernel, ht⟩)

theorem witness_BlankedLineIsBackdrop : ∃ (line : Byte) (s : State),
    line.toNat < 240 ∧ Ready (.lsLineDraw line) s ∧ s.skipCount = 0 ∧ s.reg[1].getLsbD 6 = false :=
  ⟨5#8, lineStart [0x24#8], by decide, lineStart_ready _, rfl, by decide +kernel⟩

/-- A drawn line in each kind of format, one for each clause. -/
theorem witness_DrawnLineLandsInItsRow :
    (∃ line s t, State.skipCount s = 0 ∧ exec (.lsLineDraw line) s = .next t ∧ s.fmt = .indexed8)
    ∧ (∃ line s t, State.skipCount s = 0 ∧ exec (.lsLineDraw line) s = .next t ∧ s.fmt.isDirect)
    ∧ ∃ line s t, State.skipCount s = 0 ∧ exec (.lsLineDraw line) s = .next t ∧ s.fmt = .internal :=
  ⟨(completes_of_isNext (r := exec (.lsLineDraw 5#8) { lineStart [] with fmt := .indexed8 }) (by decide +kernel)).elim
      (fun t ht => ⟨5#8, { lineStart [] with fmt := .indexed8 }, t, rfl, ht, rfl⟩),
   (completes_of_isNext (r := exec (.lsLineDraw 5#8) { lineStart [] with fmt := .rgb565 }) (by decide +kernel)).elim
      (fun t ht => ⟨5#8, { lineStart [] with fmt := .rgb565 }, t, rfl, ht, .inl rfl⟩),
   (completes_of_isNext (r := exec (.lsLineDraw 5#8) (lineStart [])) (by decide +kernel)).elim
      (fun t ht => ⟨5#8, lineStart [], t, rfl, ht, rfl⟩)⟩

/-- A drawn line in a direct-colour format with a dirty table and with a clean one, and one in another format. -/
theorem witness_DrawnLineRebuildsAtMostOnce :
    (∃ line s t, State.skipCount s = 0 ∧ exec (.lsLineDraw line) s = .next t ∧ s.fmt.isDirect ∧ s.dirty = true)
    ∧ (∃ line s t, State.skipCount s = 0 ∧ exec (.lsLineDraw line) s = .next t ∧ s.fmt.isDirect ∧ s.dirty = false)
    ∧ ∃ line s t, State.skipCount s = 0 ∧ exec (.lsLineDraw line) s = .next t ∧ ¬ s.fmt.isDirect :=
  ⟨(completes_of_isNext (r := exec (.lsLineDraw 5#8) { lineStart [] with fmt := .bgr555 }) (by decide +kernel)).elim
      (fun t ht => ⟨5#8, { lineStart [] with fmt := .bgr555 }, t, rfl, ht, .inr (.inl rfl), rfl⟩),
   (completes_of_isNext (r := exec (.lsLineDraw 5#8) { lineStart [] with fmt := .bgr565, dirty := false })
      (by decide +kernel)).elim
      (fun t ht => ⟨5#8, { lineStart [] with fmt := .bgr565, dirty := false }, t, rfl, ht, .inr (.inr rfl), rfl⟩),
   (completes_of_isNext (r := exec (.lsLineDraw 5#8) (lineStart [])) (by decide +kernel)).elim
      (fun t ht => ⟨5#8, lineStart [], t, rfl, ht, by simp [lineStart, Format.isDirect]⟩)⟩

/-- One witness for each of the three refusals. -/
theorem witness_LineDrawNeedsItsStartUp :
    (∃ (line : Byte) (s : State), s.lines ≤ line.toNat) ∧ (∃ s : State, s.fmt = .notSelected) ∧ ∃ s : State, s.order = .noFrame :=
  ⟨⟨192#8, lineStart [], by decide⟩, ⟨State.reset, rfl⟩, ⟨State.reset, rfl⟩⟩

/-- One witness for each of the three clauses, and for the last one in each kind of frame: the second of a frame's first two
lines is issued, and a line beyond the last of a frame that lasts till LS.FRAME_START. -/
theorem witness_FormatNeverChangesInMidFrame :
    (∃ (code : Byte) (s t u : State) (ops : List Instr), exec (.pfSelect code) s = .next t
      ∧ (∀ i ∈ ops, i ≠ .lsFrameStart) ∧ ops ≠ [] ∧ forEach exec ops t = .next u)
    ∧ (∃ (s u : State) (ops : List Instr), (∀ i ∈ ops, i ≠ .lsFrameStart) ∧ ops ≠ [] ∧ forEach exec ops s = .next u
      ∧ u.order ≠ .noFrame)
    ∧ (∃ (s u : State) (ops : List Instr) (n : Nat), s.order = .inFrame n ∧ 0 < n
      ∧ s.params.frameEnd = .atNextFrameStart ∧ n = s.lines ∧ (∀ i ∈ ops, i ≠ .lsFrameStart)
      ∧ (ops.filter drawsLine).length = 1 ∧ forEach exec ops s = .next u)
    ∧ ∃ (s u : State) (ops : List Instr) (n : Nat), s.order = .inFrame n ∧ 0 < n ∧ s.params.frameEnd = .atLastLine
      ∧ n + (ops.filter drawsLine).length < s.lines ∧ (∀ i ∈ ops, i ≠ .lsFrameStart) ∧ (ops.filter drawsLine).length = 1
      ∧ forEach exec ops s = .next u :=
  ⟨⟨1#8, State.reset, _, _, [.lsBackfill], rfl, by decide, by decide, rfl⟩,
   ⟨{ State.reset with order := .inFrame 0 }, _, [.lsBackfill], by decide, by decide, rfl, by decide⟩,
   ⟨{ lineStart [] with skipCount := 1, order := .inFrame 192 }, _, [.lsLineDraw 1#8], 192, rfl, by decide, rfl, rfl, by decide,
    rfl, rfl⟩,
   ⟨endsAtLastLine { lineStart [] with skipCount := 1, order := .inFrame 1 }, _, [.lsLineDraw 1#8], 1, rfl, by decide, rfl,
    by decide +kernel, by decide, rfl, rfl⟩⟩

/-- Every code: before the first frame, after an LS.FRAME_START, and after the last line of a frame that ends there. -/
theorem witness_SelectSetsFormat :
    (∃ (code : Byte) (s : State) (f : Format), code = 0#8 ∧ f = .indexed8 ∧ s.order = .noFrame
      ∧ ∀ n, s.order = .inFrame n → n = 0 ∨ (s.params.frameEnd = .atLastLine ∧ s.lines ≤ n))
    ∧ (∃ (code : Byte) (s : State) (f : Format), code = 1#8 ∧ f = .rgb565 ∧ s.order = .inFrame 0
      ∧ ∀ n, s.order = .inFrame n → n = 0 ∨ (s.params.frameEnd = .atLastLine ∧ s.lines ≤ n))
    ∧ (∃ (code : Byte) (s : State) (f : Format), code = 2#8 ∧ f = .bgr555 ∧ s.order = .inFrame 192 ∧ s.lines = 192
      ∧ ∀ n, s.order = .inFrame n → n = 0 ∨ (s.params.frameEnd = .atLastLine ∧ s.lines ≤ n))
    ∧ (∃ (code : Byte) (s : State) (f : Format), code = 3#8 ∧ f = .bgr565 ∧ s.order = .inFrame 193 ∧ s.lines = 192
      ∧ ∀ n, s.order = .inFrame n → n = 0 ∨ (s.params.frameEnd = .atLastLine ∧ s.lines ≤ n))
    ∧ ∃ (code : Byte) (s : State) (f : Format), code = 4#8 ∧ f = .internal ∧ s.order = .inFrame 0
      ∧ ∀ n, s.order = .inFrame n → n = 0 ∨ (s.params.frameEnd = .atLastLine ∧ s.lines ≤ n) :=
  ⟨⟨0#8, State.reset, .indexed8, rfl, rfl, rfl, fun _ h => nomatch h⟩,
   ⟨1#8, { State.reset with order := .inFrame 0 }, .rgb565, rfl, rfl, rfl, fun _ h => .inl (CallOrder.inFrame.inj h).symm⟩,
   ⟨2#8, endsAtLastLine { State.reset with lines := 192, order := .inFrame 192 }, .bgr555, rfl, rfl, rfl, rfl,
    fun _ h => .inr ⟨rfl, (CallOrder.inFrame.inj h).le⟩⟩,
   ⟨3#8, endsAtLastLine { State.reset with lines := 192, order := .inFrame 193 }, .bgr565, rfl, rfl, rfl, rfl,
    fun _ h => .inr ⟨rfl, (Nat.le_succ 192).trans (CallOrder.inFrame.inj h).le⟩⟩,
   ⟨4#8, { State.reset with order := .inFrame 0 }, .internal, rfl, rfl, rfl, fun _ h => .inl (CallOrder.inFrame.inj h).symm⟩⟩

/-- After the first of 192 lines and after the last where the frame lasts till LS.FRAME_START, and before the last where it ends
there. -/
theorem witness_SelectRefusedInMidFrame :
    (∃ (code : Byte) (s : State) (n : Nat), code.toNat < 5 ∧ s.order = .inFrame n ∧ n = 1
      ∧ s.params.frameEnd = .atNextFrameStart)
    ∧ (∃ (code : Byte) (s : State) (n : Nat), code.toNat < 5 ∧ s.order = .inFrame n ∧ 0 < n ∧ n = s.lines
      ∧ s.params.frameEnd = .atNextFrameStart)
    ∧ ∃ (code : Byte) (s : State) (n : Nat), code.toNat < 5 ∧ s.order = .inFrame n ∧ 0 < n ∧ n + 1 = s.lines
      ∧ s.params.frameEnd = .atLastLine :=
  ⟨⟨4#8, { State.reset with lines := 192, order := .inFrame 1 }, 1, by decide, rfl, rfl, rfl⟩,
   ⟨4#8, { State.reset with lines := 192, order := .inFrame 192 }, 192, by decide, rfl, by decide, rfl, rfl⟩,
   ⟨0#8, endsAtLastLine { State.reset with lines := 192, order := .inFrame 191 }, 191, by decide, rfl, by decide, rfl, rfl⟩⟩

theorem witness_ReservedFormatCodesRefused : ∃ code : Byte, 5 ≤ code.toNat := ⟨5#8, by decide⟩

/-- Each direct-colour format: the witness for PF.REBUILD. -/
theorem witness_RebuildFillsTable :
    (∃ s : State, s.fmt.isDirect ∧ s.fmt = .rgb565) ∧ (∃ s : State, s.fmt.isDirect ∧ s.fmt = .bgr555)
    ∧ ∃ s : State, s.fmt.isDirect ∧ s.fmt = .bgr565 :=
  ⟨⟨{ State.reset with fmt := .rgb565 }, .inl rfl, rfl⟩, ⟨{ State.reset with fmt := .bgr555 }, .inr (.inl rfl), rfl⟩,
   ⟨{ State.reset with fmt := .bgr565 }, .inr (.inr rfl), rfl⟩⟩

theorem witness_RebuildNeedsDirectColour : ∃ s : State, ¬ s.fmt.isDirect := ⟨State.reset, by simp [State.reset, Format.isDirect]⟩

/-- Each kind of format: the witness for PF.FINALIZE. -/
theorem witness_FinalizeHandsOverVisibleWindow :
    (∃ s : State, s.fmt = .indexed8) ∧ (∃ s : State, s.fmt.isDirect ∧ s.dirty = true) ∧ ∃ s : State, s.fmt = .internal :=
  ⟨⟨{ State.reset with fmt := .indexed8 }, rfl⟩, ⟨{ State.reset with fmt := .rgb565 }, .inl rfl, rfl⟩,
   ⟨{ State.reset with fmt := .internal }, rfl⟩⟩

end Sys2Proof.Tests
end

section
/-! PROOFS. The bytes of VRAM reads and the bits of pixels. -/

namespace Sys2Proof.Machine

/-! ## The bytes of a wider read -/

/-- Concatenation as arithmetic. -/
theorem toNat_append_add {m n : Nat} (hi : BitVec m) (lo : BitVec n) :
    (hi ++ lo).toNat = lo.toNat + 2 ^ n * hi.toNat := by
  rw [BitVec.toNat_append, ← Nat.shiftLeft_add_eq_or_of_lt lo.isLt, Nat.shiftLeft_eq, Nat.mul_comm, Nat.add_comm]

theorem toNat_vread16 (s : State) (a : Nat) :
    (vread16 s a).toNat = (vread8 s a).toNat + 256 * (vread8 s (a + 1)).toNat :=
  toNat_append_add (vread8 s (a + 1)) (vread8 s a)

theorem vread32_eq_append (s : State) (a : Nat) : vread32 s a = vread16 s (a + 2) ++ vread16 s a := rfl

theorem toNat_vread32 (s : State) (a : Nat) :
    (vread32 s a).toNat = (vread8 s a).toNat + 256 * (vread8 s (a + 1)).toNat
      + 65536 * (vread8 s (a + 2)).toNat + 16777216 * (vread8 s (a + 3)).toNat := by
  rw [vread32_eq_append, toNat_append_add, toNat_vread16, toNat_vread16, show a + 2 + 1 = a + 3 from rfl]
  omega

/-- Bitplane `k` of a packed row is the byte at `a + k` (R41). -/
theorem extractLsb'_vread32 (s : State) (a : Nat) {k : Nat} (hk : k < 4) :
    (vread32 s a).extractLsb' (8 * k) 8 = vread8 s (a + k) := by
  rw [vread32_eq_append]
  unfold vread16
  match k, hk with
  | 0, _ => rw [BitVec.extractLsb'_append_eq_of_add_le (by decide)]; exact BitVec.extractLsb'_append_eq_right
  | 1, _ => rw [BitVec.extractLsb'_append_eq_of_add_le (by decide)]; exact BitVec.extractLsb'_append_eq_left
  | 2, _ => rw [BitVec.extractLsb'_append_eq_of_le (by decide)]; exact BitVec.extractLsb'_append_eq_right
  | 3, _ => rw [BitVec.extractLsb'_append_eq_of_le (by decide)]; exact BitVec.extractLsb'_append_eq_left

theorem getLsbD_vread32 (s : State) (a : Nat) {k j : Nat} (hk : k < 4) (hj : j < 8) :
    (vread32 s a).getLsbD (8 * k + j) = (vread8 s (a + k)).getLsbD j := by
  rw [← extractLsb'_vread32 s a hk, BitVec.getLsbD_extractLsb', decide_eq_true hj, Bool.true_and]

/-! ## The bits of a pixel -/

/-- Bitplane `k` supplies bit `k` of the pixel (R91). -/
theorem getLsbD_pix4 (pack : Pack) {p k : Nat} (hp : p < 8) (hk : k < 4) :
    (pix4 pack p).getLsbD k = pack.getLsbD (8 * k + (7 - p)) := by
  have h1 : 15 - p = 8 * 1 + (7 - p) := by omega
  have h2 : 23 - p = 8 * 2 + (7 - p) := by omega
  have h3 : 31 - p = 8 * 3 + (7 - p) := by omega
  unfold pix4
  rw [h1, h2, h3]
  match k, hk with
  | 0, _ | 1, _ | 2, _ | 3, _ => simp

theorem getLsbD_pix4_vread32 (s : State) (a : Nat) {p k : Nat} (hp : p < 8) (hk : k < 4) :
    (pix4 (vread32 s a) p).getLsbD k = (vread8 s (a + k)).getLsbD (7 - p) := by
  rw [getLsbD_pix4 _ hp hk, getLsbD_vread32 s a hk (by omega)]

/-- Settles O21: the reads are concatenations of `vread8` bytes, and bitplane `k` supplies bit `k` of a pixel. -/
theorem pixelBitsOfPackedRows : Obligations.PixelBitsOfPackedRows := by
  refine ⟨fun s a => ⟨rfl, toNat_vread16 s a, toNat_vread32 s a, fun k => extractLsb'_vread32 s a,
    fun p k => getLsbD_pix4_vread32 s a⟩, fun pack p k hp hk => ?_, fun pack p _ => rfl⟩
  rw [getLsbD_pix4 pack hp hk, Nat.add_sub_assoc (by omega)]

end Sys2Proof.Machine
end

section
/-! PROOFS. Reserved command bytes: the decoder names them and the step refuses them (R75, R76). -/

namespace Sys2Proof

/-- The 24 codes of the operation map (R75). -/
def commandCodes : List Nat :=
  [0x00, 0x01, 0x02, 0x03, 0x04, 0x08, 0x0A, 0x0C, 0x10, 0x11, 0x12, 0x13, 0x20, 0x21, 0x22, 0x30, 0x31, 0x32, 0x33, 0x34,
    0x35, 0x40, 0x41, 0x42]

/-- The map gives operands to the codes of R75 and to no other. -/
theorem operandsOf_eq_none_iff {cmd : Nat} : operandsOf cmd = none ↔ cmd ∉ commandCodes := by
  constructor
  · intro hnone hmem
    have hall : ∀ c ∈ commandCodes, (operandsOf c).isSome = true := by decide
    simpa [hnone] using hall cmd hmem
  · intro hcmd
    unfold operandsOf
    split
    case h_25 => rfl -- the wildcard; every other arm is a code of the list
    all_goals exact absurd (by decide) hcmd

theorem decode_cons_of_reserved {cmd : Byte} (hcmd : cmd.toNat ∉ commandCodes) (bs : List Byte) :
    decode (cmd :: bs) = .error (.reservedCommand cmd) := by
  simp only [decode, operandsOf_eq_none_iff.mpr hcmd]

namespace Machine

/-- Bytes at the head of the host's actions that do not decode are refused, with the decoder's reason. -/
theorem step_of_decode_error {s : State} {b : Byte} {bs : List Byte} {h : List HostAction} {e : DecodeError}
    (hhost : s.host = .issue (b :: bs) :: h) (hdecode : decode (b :: bs) = .error e) :
    step s = .refused (rejection e) := by
  have hfetch : fetch s = .rejected (rejection e) := by simp only [fetch, hhost, fetchStream, hdecode]
  simp only [step, hfetch]

/-- Settles O6: the operation map has no entry for the byte, so the decoder names it and the step refuses. -/
theorem reservedCommandsRefused : Obligations.ReservedCommandsRefused :=
  fun _ _ bs _ hcmd hhost => step_of_decode_error hhost (decode_cons_of_reserved hcmd bs)

end Machine
end Sys2Proof
end

section
/-! PROOFS. What the tile decoder's operations write (R93 to R100). -/

namespace Sys2Proof.Machine

/-! ## The shared draw -/

/-- A draw at a natural offset writes its pixels' lane of the line buffer and nothing else. -/
theorem tdDraw_writesOnlyLb {sx w : Nat} {px : Nat → Option Byte} {s t : State} (h : tdDraw sx w px s = .next t) :
    WritesOnlyLb s t (lane sx w px) := by
  have hframe : t = { s with lb := t.lb } := tdDraw_frame h
  have hvram : SameVram s t := by rw [hframe]; exact fun _ => rfl
  refine ⟨hframe, hvram, fun i hi => ?_⟩
  rw [tdDraw_getElem h i hi, lane]
  split <;> rfl

/-- A draw inside the line buffer answers, and writes the lane of its pixels. -/
theorem tdDraw_draws {sx w : Nat} (h : sx + w ≤ 304) (px : Nat → Option Byte) (s : State) :
    ∃ t, tdDraw sx w px s = .next t ∧ WritesOnlyLb s t (lane sx w px) := by
  have hnext := tdDraw_completes (sx := sx) (w := w) ⟨by omega, by omega⟩ px s
  exact ⟨_, hnext, tdDraw_writesOnlyLb hnext⟩

/-! ## Each operation as one draw -/

section
variable (sx : Half) (pack : Pack) (pack1 pal : Byte) (s : State)

theorem exec_tdM4Norm :
    exec (.tdM4Norm sx pack pal) s = tdDraw sx.toNat 8 (fun x => overlay4 pal (pix4 pack x)) s := rfl

theorem exec_tdM4Flip :
    exec (.tdM4Flip sx pack pal) s = tdDraw sx.toNat 8 (fun x => overlay4 pal (pix4 pack (7 - x))) s := rfl

theorem exec_tdM4NormBg :
    exec (.tdM4NormBg sx pack pal) s = tdDraw sx.toNat 8 (fun x => opaque4 pal (pix4 pack x)) s := rfl

theorem exec_tdM4FlipBg :
    exec (.tdM4FlipBg sx pack pal) s = tdDraw sx.toNat 8 (fun x => opaque4 pal (pix4 pack (7 - x))) s := rfl

theorem exec_tdM4Dbl :
    exec (.tdM4Dbl sx pack pal) s = tdDraw sx.toNat 16 (fun x => overlay4 pal (pix4 pack (x / 2))) s := rfl

theorem exec_tdM2Bg :
    exec (.tdM2Bg sx pack1 pal) s = tdDraw sx.toNat 8 (fun x => background2 pal (pix1 pack1 x)) s := rfl

theorem exec_tdM2Spr :
    exec (.tdM2Spr sx pack1 pal) s = tdDraw sx.toNat 8 (fun x => sprite2 pal (pix1 pack1 x)) s := rfl

theorem exec_tdM2SprDbl :
    exec (.tdM2SprDbl sx pack1 pal) s = tdDraw sx.toNat 16 (fun x => sprite2 pal (pix1 pack1 (x / 2))) s := rfl

end

/-! ## Mode 4 (R93 to R97) -/

theorem overlay4_eq (pal : Byte) (v : Nibble) :
    overlay4 pal v = if v = 0#4 then none else some (pal ||| v.setWidth 8) := rfl

theorem opaque4_eq (pal : Byte) (v : Nibble) : opaque4 pal v = some (pal ||| v.setWidth 8) := rfl

/-- Settles O24: both forms are one draw of the transparent pixels, the second with the columns mirrored. -/
theorem transparentTileFormsDraw : Obligations.TransparentTileFormsDraw := by
  intro sx pack pal s h
  simp only [exec_tdM4Norm, exec_tdM4Flip, ← overlay4_eq]
  exact ⟨tdDraw_draws h _ s, tdDraw_draws h _ s⟩

/-- Settles O25: both forms are one draw of the opaque pixels, the second with the columns mirrored. -/
theorem backgroundTileFormsDraw : Obligations.BackgroundTileFormsDraw := by
  intro sx pack pal s h
  simp only [exec_tdM4NormBg, exec_tdM4FlipBg, ← opaque4_eq]
  exact ⟨tdDraw_draws h _ s, tdDraw_draws h _ s⟩

/-- Settles O26: one draw of sixteen bytes, whose byte `x` is the transparent pixel `x / 2`. -/
theorem doubleWidthTileFormDraws : Obligations.DoubleWidthTileFormDraws := by
  intro sx pack pal s h
  simp only [exec_tdM4Dbl, ← overlay4_eq]
  exact tdDraw_draws h _ s

/-! ## Mode 2 (R98 to R100) -/

theorem setWidth_highNibble (pal : Byte) : (pal.extractLsb' 4 4).setWidth 8 = pal >>> 4 := by
  apply BitVec.eq_of_toNat_eq
  have := pal.isLt
  simp only [BitVec.toNat_setWidth, BitVec.extractLsb'_toNat, BitVec.toNat_ushiftRight]
  omega

theorem setWidth_lowNibble (pal : Byte) : (pal.extractLsb' 0 4).setWidth 8 = pal &&& 0x0F#8 := by
  apply BitVec.eq_of_toNat_eq
  rw [BitVec.toNat_and, show (0x0F#8).toNat = 2 ^ 4 - 1 from rfl, Nat.and_two_pow_sub_one_eq_mod]
  simp only [BitVec.toNat_setWidth, BitVec.extractLsb'_toNat, Nat.shiftRight_zero]
  omega

/-- The colour of a sprite is 0 as a nibble exactly when it is as a byte. -/
theorem lowNibble_eq_zero_iff (pal : Byte) : pal.extractLsb' 0 4 = 0#4 ↔ pal &&& 0x0F#8 = 0#8 := by
  rw [← setWidth_lowNibble, ← BitVec.toNat_inj, ← BitVec.toNat_inj, BitVec.toNat_setWidth_of_le (by decide)]
  rfl

theorem background2_eq (pal : Byte) (bit : Bool) :
    background2 pal bit = some (if bit then pal >>> 4 else pal &&& 0x0F#8) := by
  cases bit with
  | true => exact congrArg some (setWidth_highNibble pal)
  | false => exact congrArg some (setWidth_lowNibble pal)

theorem sprite2_eq (pal : Byte) (bit : Bool) :
    sprite2 pal bit = if bit = true ∧ pal &&& 0x0F#8 ≠ 0#8 then some (pal &&& 0x0F#8) else none := by
  cases bit with
  | true => simp [sprite2, lowNibble_eq_zero_iff, setWidth_lowNibble]
  | false => simp [sprite2]

/-- Settles O27: one draw of the nibbles of the colour byte. -/
theorem legacyBackgroundFormDraws : Obligations.LegacyBackgroundFormDraws := by
  intro sx pack pal s h
  simp only [exec_tdM2Bg, ← background2_eq]
  exact tdDraw_draws h _ s

/-- Settles O28: one draw of the sprite pixels, over eight bytes or, each pixel doubled, over sixteen. -/
theorem legacySpriteFormsDraw : Obligations.LegacySpriteFormsDraw := by
  intro sx pack pal s
  simp only [exec_tdM2Spr, exec_tdM2SprDbl, ← sprite2_eq]
  exact ⟨fun h => tdDraw_draws h _ s, fun h => tdDraw_draws h _ s⟩

end Sys2Proof.Machine
end

section
/-! PROOFS. What the mode-4 sprite draw writes (R113): each slot writes its lane, and a loop that runs over a list from the last
entry to the first leaves the first entry's bytes on top. -/

namespace Sys2Proof.Machine

/-! ## Writes to the line buffer, one after the other -/

theorem writesOnlyLb_refl (s : State) : WritesOnlyLb s s (fun _ => none) := ⟨rfl, fun _ => rfl, fun _ _ => rfl⟩

/-- Of two writes in a row the later one's bytes stand. -/
theorem WritesOnlyLb.trans {s u t : State} {v w : Nat → Option Byte} (hu : WritesOnlyLb s u v) (ht : WritesOnlyLb u t w) :
    WritesOnlyLb s t (fun i => (w i).or (v i)) := by
  obtain ⟨hus, hvramU, hlbU⟩ := hu
  obtain ⟨htu, hvramT, hlbT⟩ := ht
  refine ⟨by rw [htu, hus], fun a => (hvramT a).trans (hvramU a), fun i hi => ?_⟩
  rw [hlbT i hi, hlbU i hi, Option.getD_or]

/-- A loop in reverse order whose passes each complete and write only the line buffer: at every byte the first entry of the list
that writes there stands. -/
theorem forEach_reverse_writesOnlyLb {α : Type} {f : α → State → Result} {w : α → Nat → Option Byte} {l : List α} {s : State}
    (body : ∀ a ∈ l, ∀ lb, ∃ t, f a (s.setLb lb) = .next t ∧ WritesOnlyLb (s.setLb lb) t (w a)) :
    ∃ t, forEach f l.reverse s = .next t ∧ WritesOnlyLb s t (fun i => l.findSome? (fun a => w a i)) := by
  induction l with
  | nil => exact ⟨s, rfl, writesOnlyLb_refl s⟩
  | cons a l ih =>
    obtain ⟨u, hu, hsu⟩ := ih (fun b hb => body b (List.mem_cons_of_mem a hb))
    have hframe : s.setLb u.lb = u := hsu.1.symm
    obtain ⟨t, ht, hut⟩ := body a List.mem_cons_self u.lb
    rw [hframe] at ht hut
    have hor : (fun i => (a :: l).findSome? (fun b => w b i)) = fun i => (w a i).or (l.findSome? (fun b => w b i)) := by
      funext i
      rw [List.findSome?_cons]
      cases w a i <;> rfl
    rw [List.reverse_cons, forEach_append, hu, andThen_next, forEach_cons, ht, hor]
    exact ⟨t, rfl, hsu.trans hut⟩

/-! ## One sprite row -/

/-- At a natural offset a sprite's lane is the lane of a draw. -/
theorem spriteLane_natCast (sx w : Nat) (px : Nat → Option Byte) : spriteLane sx w px = lane sx w px := by
  funext i
  unfold spriteLane lane
  rw [show ((i : Int) - sx).toNat = i - sx by omega]
  exact if_congr (by omega) rfl rfl

/-- A draw at an integer offset inside the line buffer answers, and writes the sprite's lane. -/
theorem tdDraw_draws_spriteLane {x : Int} {w : Nat} (h : 0 ≤ x ∧ x + w ≤ 304) (px : Nat → Option Byte) (s : State) :
    ∃ t, tdDraw x w px s = .next t ∧ WritesOnlyLb s t (spriteLane x w px) := by
  obtain ⟨hlo, hhi⟩ := h
  lift x to Nat using hlo
  rw [spriteLane_natCast]
  exact tdDraw_draws (by omega) px s

/-! ## SS.M4.DRAW -/

/-- What pixel `x` of `slot[k]` writes: the transparent form with the second palette's bit, each pixel twice if zoomed (R113). -/
def slotPixel4 (s : State) (k x : Nat) : Option Byte :=
  overlay4 0x10#8 (pix4 (vread32 s (slotAt s k).addr.toNat) (if zoom s then x / 2 else x))

/-- The line-buffer bytes that `slot[k]` writes. -/
def slotLane4 (s : State) (k : Nat) : Nat → Option Byte := spriteLane (slotAt s k).x (halfWidth s) (slotPixel4 s k)

/-- Both widths of a slot are one draw of its pixels. -/
theorem drawSlot4_eq (k : Nat) (s : State) :
    drawSlot4 k s = tdDraw (slotAt s k).x (halfWidth s) (slotPixel4 s k) s := by
  unfold drawSlot4 halfWidth slotPixel4
  cases zoom s <;> rfl

/-- A slot inside the line buffer is drawn, whatever the line buffer holds, and writes its lane. -/
theorem drawSlot4_draws {s : State} (hfit : SlotsFit4 s) {k : Nat} (hk : k < s.nslot.val) (lb : LineBuffer) :
    ∃ t, drawSlot4 k (s.setLb lb) = .next t ∧ WritesOnlyLb (s.setLb lb) t (slotLane4 s k) := by
  obtain ⟨hlo, hhi⟩ := hfit k hk
  have hrange : 0 ≤ (slotAt s k).x ∧ (slotAt s k).x + halfWidth s ≤ 304 := by
    refine ⟨hlo, ?_⟩
    rw [halfWidth, Nat.cast_ite]
    exact hhi
  rw [drawSlot4_eq]
  exact tdDraw_draws_spriteLane hrange (slotPixel4 s k) (s.setLb lb)

/-- The draw writes, at every byte, what the lowest slot with a pixel there writes. -/
theorem drawM4_draws {s : State} (hfit : SlotsFit4 s) :
    ∃ t, drawM4 s = .next t
      ∧ WritesOnlyLb s t (fun i => (List.range s.nslot.val).findSome? (fun k => slotLane4 s k i)) :=
  forEach_reverse_writesOnlyLb (fun _ hk => drawSlot4_draws hfit (List.mem_range.mp hk))

theorem exec_ssM4Draw (s : State) : exec .ssM4Draw s = drawM4 s := rfl

/-- Settles O31: the slots are drawn from the last to the first, so the lowest slot's pixel is written last. -/
theorem tileModeDrawPutsLowestSlotOnTop : Obligations.TileModeDrawPutsLowestSlotOnTop := by
  intro s hfit
  rw [exec_ssM4Draw]
  exact drawM4_draws hfit

end Sys2Proof.Machine
end

section
/-! PROOFS. What the strip compositor's mode-4 passes write (R130 to R133): each column writes its lane of eight bytes, and the
columns of a strip write the one lane they make up. -/

namespace Sys2Proof.Machine

/-! ## Columns side by side -/

theorem lane_none (sx w : Nat) : lane sx w (fun _ => none) = fun _ => none := funext fun _ => ite_self none

/-- Column `n`'s lane extends the lane of the columns before it; `px k x` is pixel `x` of column `k`. -/
theorem lane_append_column (sx n : Nat) (px : Nat → Nat → Option Byte) (i : Nat) :
    (lane (sx + 8 * n) 8 (px n) i).or (lane sx (8 * n) (fun j => px (j / 8) (j % 8)) i)
      = lane sx (8 * (n + 1)) (fun j => px (j / 8) (j % 8)) i := by
  unfold lane
  by_cases hlast : sx + 8 * n ≤ i ∧ i < sx + 8 * n + 8
  · rw [if_pos hlast, if_neg (by omega), if_pos (by omega), Option.or_none]
    exact congrArg₂ px (by omega) (by omega)
  · rw [if_neg hlast, Option.none_or]
    exact if_congr (by omega) rfl rfl

/-- A loop over columns from the left, each of which completes and writes its eight bytes whatever the line buffer holds. -/
theorem forEach_columns_writesOnlyLb {f : Nat → State → Result} {sx n : Nat} {px : Nat → Nat → Option Byte} {s : State}
    (body : ∀ k < n, ∀ lb, ∃ t, f k (s.setLb lb) = .next t ∧ WritesOnlyLb (s.setLb lb) t (lane (sx + 8 * k) 8 (px k))) :
    ∃ t, forEach f (List.range n) s = .next t ∧ WritesOnlyLb s t (lane sx (8 * n) (fun j => px (j / 8) (j % 8))) := by
  induction n with
  | zero =>
    have hempty : lane sx (8 * 0) (fun j => px (j / 8) (j % 8)) = fun _ => none := funext fun _ => if_neg (by omega)
    rw [hempty]
    exact ⟨s, rfl, writesOnlyLb_refl s⟩
  | succ n ih =>
    obtain ⟨u, hu, hsu⟩ := ih (fun k hk => body k (Nat.lt_succ_of_lt hk))
    have hframe : s.setLb u.lb = u := hsu.1.symm
    obtain ⟨t, ht, hut⟩ := body n n.lt_succ_self u.lb
    rw [hframe] at ht hut
    rw [List.range_succ, forEach_append, hu, andThen_next, forEach_cons, ht, ← funext (lane_append_column sx n px)]
    exact ⟨t, rfl, hsu.trans hut⟩

/-- A strip inside the ranges of R70 whose columns write their lanes writes the lane of `8 * n` bytes at `dx`. -/
theorem strip_draws {column : Nat → State → Result} {dx n : Nat} {px : Nat → Nat → Option Byte} {s : State}
    (h : n ≤ 33 ∧ dx + 8 * n ≤ 304)
    (body : ∀ k, dx + 8 * k + 8 ≤ 304 → ∀ lb, ∃ t, column k (s.setLb lb) = .next t
      ∧ WritesOnlyLb (s.setLb lb) t (lane (dx + 8 * k) 8 (px k))) :
    ∃ t, strip column dx n s = .next t ∧ WritesOnlyLb s t (lane dx (8 * n) (fun j => px (j / 8) (j % 8))) := by
  obtain ⟨t, ht, hwrites⟩ := forEach_columns_writesOnlyLb (n := n) (fun k hk => body k (by omega))
  exact ⟨t, strip_eq_next.mpr ⟨h, ht⟩, hwrites⟩

/-! ## The fields of a tile code as arithmetic (R61, R133) -/

theorem tilePal_eq (code : Half) : tilePal code = if code.getLsbD 11 then 0x10#8 else 0#8 := by
  ext i hi
  unfold tilePal
  match i, hi with
  | 0, _ | 1, _ | 2, _ | 3, _ | 4, _ | 5, _ | 6, _ | 7, _ => cases h : code[11] <;> simp [h]

theorem tileIndex_eq (code : Half) : tileIndex code = (code &&& 0x1FF#16).toNat := by
  rw [BitVec.toNat_and, show (0x1FF#16).toNat = 2 ^ 9 - 1 from rfl, Nat.and_two_pow_sub_one_eq_mod]
  exact BitVec.extractLsb'_toNat 0 9 code

/-- Flipping a row number mirrors it. -/
theorem xor_seven : ∀ r < 8, r ^^^ 7 = 7 - r := by decide

theorem tileRow_eq (code : Half) (ty : Nat) : tileRow code ty = if code.getLsbD 10 then 7 - ty % 8 else ty % 8 := by
  unfold tileRow tileVflip
  rw [show ty &&& 7 = ty % 8 from Nat.and_two_pow_sub_one_eq_mod ty 3]
  cases code.getLsbD 10 with
  | false => exact Nat.xor_zero _
  | true => exact xor_seven _ (Nat.mod_lt ty (by decide))

theorem tileAddr_eq (code : Half) (ty : Nat) :
    tileAddr code ty = (code &&& 0x1FF#16).toNat * 32 + (if code.getLsbD 10 then 7 - ty % 8 else ty % 8) * 4 := by
  rw [tileAddr, Nat.shiftLeft_eq, Nat.shiftLeft_eq, tileIndex_eq, tileRow_eq]

theorem columnCode_eq (s : State) (row col k : Nat) : columnCode s row col k = vread16 s (row + 2 * ((col + k) % 32)) := by
  rw [columnCode, show (col + k) &&& 31 = (col + k) % 32 from Nat.and_two_pow_sub_one_eq_mod _ 5]

/-! ## The pixels of a column -/

theorem pix4_zero (p : Nat) : pix4 0#32 p = 0#4 := by simp [pix4]

/-- The value of pixel `x` of column `k`, mirrored if the tile code says so (R133). -/
def columnPixel (s : State) (row col ty k x : Nat) : Nibble :=
  pix4 (vread32 s (tileAddr (columnCode s row col k) ty)) (if tileHflip (columnCode s row col k) then 7 - x else x)

/-- What the low pass writes for pixel `x` of column `k` (R131). -/
def lowPixel (s : State) (row col ty k x : Nat) : Option Byte :=
  if tilePrio (columnCode s row col k) then none
  else some (tilePal (columnCode s row col k) ||| (columnPixel s row col ty k x).setWidth 8)

/-- What the high pass writes for pixel `x` of column `k` (R132). -/
def highPixel (s : State) (row col ty k x : Nat) : Option Byte :=
  if tilePrio (columnCode s row col k) = true ∧ columnPixel s row col ty k x ≠ 0#4 then
    some (tilePal (columnCode s row col k) ||| (columnPixel s row col ty k x).setWidth 8)
  else none

section
variable {row dx col ty k : Nat} {s : State}

/-! ## The low pass (R131) -/

theorem lowPixel_of_prio (hprio : tilePrio (columnCode s row col k) = true) : lowPixel s row col ty k = fun _ => none :=
  funext fun _ => if_pos hprio

theorem lowColumn_of_prio (hprio : tilePrio (columnCode s row col k) = true) : lowColumn row dx col ty k s = .next s :=
  if_pos hprio

/-- A column without priority is one draw of its pixels, mirrored or not. -/
theorem lowColumn_of_not_prio (hprio : ¬ tilePrio (columnCode s row col k) = true) :
    lowColumn row dx col ty k s = tdDraw (dx + 8 * k : Nat) 8 (lowPixel s row col ty k) s := by
  unfold lowColumn lowPixel columnPixel
  simp only [if_neg hprio]
  cases tileHflip (columnCode s row col k) with
  | false => exact if_neg Bool.false_ne_true
  | true => exact if_pos rfl

theorem lowColumn_draws (h : dx + 8 * k + 8 ≤ 304) (s : State) :
    ∃ t, lowColumn row dx col ty k s = .next t ∧ WritesOnlyLb s t (lane (dx + 8 * k) 8 (lowPixel s row col ty k)) := by
  by_cases hprio : tilePrio (columnCode s row col k) = true
  · rw [lowPixel_of_prio hprio, lane_none]
    exact ⟨s, lowColumn_of_prio hprio, writesOnlyLb_refl s⟩
  · rw [lowColumn_of_not_prio hprio]
    exact tdDraw_draws h _ s

/-! ## The high pass (R132) -/

theorem highColumn_of_not_prio (hprio : ¬ tilePrio (columnCode s row col k) = true) :
    highColumn row dx col ty k s = .next s := by
  rw [highColumn, Bool.eq_false_of_not_eq_true hprio]
  rfl

theorem highPixel_of_not_prio (hprio : ¬ tilePrio (columnCode s row col k) = true) :
    highPixel s row col ty k = fun _ => none :=
  funext fun _ => if_neg fun h => hprio h.1

/-- A blank row has no pixel to draw, so passing it over changes nothing. -/
theorem highPixel_of_blank (hblank : vread32 s (tileAddr (columnCode s row col k) ty) = 0#32) :
    highPixel s row col ty k = fun _ => none := by
  funext x
  have hzero : columnPixel s row col ty k x = 0#4 := by rw [columnPixel, hblank, pix4_zero]
  exact if_neg fun h => h.2 hzero

theorem highColumn_of_blank (hprio : tilePrio (columnCode s row col k) = true)
    (hblank : vread32 s (tileAddr (columnCode s row col k) ty) = 0#32) : highColumn row dx col ty k s = .next s := by
  rw [highColumn, hprio]
  exact if_pos hblank

/-- In a priority column the written pixels are those of the transparent form. -/
theorem highPixel_of_prio (hprio : tilePrio (columnCode s row col k) = true) (x : Nat) :
    highPixel s row col ty k x = overlay4 (tilePal (columnCode s row col k)) (columnPixel s row col ty k x) := by
  simp only [highPixel, hprio, true_and, ite_not, overlay4_eq]

/-- A priority column whose row is not blank is one draw of its pixels, mirrored or not. -/
theorem highColumn_of_prio (hprio : tilePrio (columnCode s row col k) = true)
    (hrow : vread32 s (tileAddr (columnCode s row col k) ty) ≠ 0#32) :
    highColumn row dx col ty k s = tdDraw (dx + 8 * k : Nat) 8 (highPixel s row col ty k) s := by
  rw [funext (highPixel_of_prio hprio), highColumn, hprio, Bool.not_true, if_neg Bool.false_ne_true, if_neg hrow]
  unfold columnPixel
  cases tileHflip (columnCode s row col k) with
  | false => exact if_neg Bool.false_ne_true
  | true => exact if_pos rfl

theorem highColumn_draws (h : dx + 8 * k + 8 ≤ 304) (s : State) :
    ∃ t, highColumn row dx col ty k s = .next t ∧ WritesOnlyLb s t (lane (dx + 8 * k) 8 (highPixel s row col ty k)) := by
  by_cases hprio : tilePrio (columnCode s row col k) = true
  · by_cases hblank : vread32 s (tileAddr (columnCode s row col k) ty) = 0#32
    · rw [highPixel_of_blank hblank, lane_none]
      exact ⟨s, highColumn_of_blank hprio hblank, writesOnlyLb_refl s⟩
    · rw [highColumn_of_prio hprio hblank]
      exact tdDraw_draws h _ s
  · rw [highPixel_of_not_prio hprio, lane_none]
    exact ⟨s, highColumn_of_not_prio hprio, writesOnlyLb_refl s⟩

end

/-! ## SC.M4.LOW and SC.M4.HIGH -/

theorem lowStrip_draws {row dx n col ty : Nat} (h : n ≤ 33 ∧ dx + 8 * n ≤ 304) (s : State) :
    ∃ t, lowStrip row dx n col ty s = .next t
      ∧ WritesOnlyLb s t (lane dx (8 * n) (fun j => lowPixel s row col ty (j / 8) (j % 8))) :=
  strip_draws h (fun _ hk lb => lowColumn_draws hk (s.setLb lb))

theorem highStrip_draws {row dx n col ty : Nat} (h : n ≤ 33 ∧ dx + 8 * n ≤ 304) (s : State) :
    ∃ t, highStrip row dx n col ty s = .next t
      ∧ WritesOnlyLb s t (lane dx (8 * n) (fun j => highPixel s row col ty (j / 8) (j % 8))) :=
  strip_draws h (fun _ hk lb => highColumn_draws hk (s.setLb lb))

/-- Settles O33: each column without priority is one opaque draw, and the columns lie side by side. -/
theorem lowPassDrawsWholeColumns : Obligations.LowPassDrawsWholeColumns := by
  intro row dx n col ty s hn hdx
  have hdraws := lowStrip_draws (row := row.toNat) (col := col.toNat) (ty := ty.toNat) ⟨hn, hdx⟩ s
  simp only [lowPixel, columnPixel, columnCode_eq, tileAddr_eq, tilePal_eq] at hdraws
  exact hdraws

/-- Settles O34: each priority column is one transparent draw or, where its row is blank, has no pixel to draw. -/
theorem highPassDrawsNonzeroPixels : Obligations.HighPassDrawsNonzeroPixels := by
  intro row dx n col ty s hn hdx
  have hdraws := highStrip_draws (row := row.toNat) (col := col.toNat) (ty := ty.toNat) ⟨hn, hdx⟩ s
  simp only [highPixel, columnPixel, columnCode_eq, tileAddr_eq, tilePal_eq] at hdraws
  exact hdraws

end Sys2Proof.Machine
end

section
/-! PROOFS. The frame geometry (R72, R151) and the scroll parameters of a mode-4 line as arithmetic on the registers (R158). -/

namespace Sys2Proof.Machine

/-! ## The frame geometry -/

/-- The two tall combinations and the default, which takes every other one (R151). -/
theorem frameGeometry_cases (s : State) :
    mode4 s = true ∧ bitM2 s = true ∧ bitM1 s = true ∧ bitM3 s = false ∧ frameGeometry s = (224, 8)
      ∨ mode4 s = true ∧ bitM2 s = true ∧ bitM1 s = false ∧ bitM3 s = true ∧ frameGeometry s = (240, 0)
      ∨ ¬(mode4 s = true ∧ bitM2 s = true ∧ bitM1 s ≠ bitM3 s) ∧ frameGeometry s = (192, 24) := by
  unfold frameGeometry
  split
  next h4 h2 h1 h3 => exact .inl ⟨h4, h2, h1, h3, rfl⟩
  next h4 h2 h1 h3 => exact .inr (.inl ⟨h4, h2, h1, h3, rfl⟩)
  next h224 h240 =>
    refine .inr (.inr ⟨fun ⟨h4, h2, hne⟩ => ?_, rfl⟩)
    cases h1 : bitM1 s with
    | true => exact h224 h4 h2 h1 (by simpa [h1] using hne)
    | false => exact h240 h4 h2 h1 (by simpa [h1] using hne)

theorem frameGeometry_224 {s : State} (h : mode4 s = true ∧ bitM2 s = true ∧ bitM1 s = true ∧ bitM3 s = false) :
    frameGeometry s = (224, 8) := by
  obtain ⟨h4, h2, h1, h3⟩ := h
  rw [frameGeometry, h4, h2, h1, h3]

theorem frameGeometry_240 {s : State} (h : mode4 s = true ∧ bitM2 s = true ∧ bitM1 s = false ∧ bitM3 s = true) :
    frameGeometry s = (240, 0) := by
  obtain ⟨h4, h2, h1, h3⟩ := h
  rw [frameGeometry, h4, h2, h1, h3]

theorem frameGeometry_default {s : State} (h : ¬(mode4 s = true ∧ bitM2 s = true ∧ bitM1 s ≠ bitM3 s)) :
    frameGeometry s = (192, 24) := by
  obtain ⟨h4, h2, h1, h3, -⟩ | ⟨h4, h2, h1, h3, -⟩ | ⟨-, hg⟩ := frameGeometry_cases s
  · exact absurd ⟨h4, h2, by simp [h1, h3]⟩ h
  · exact absurd ⟨h4, h2, by simp [h1, h3]⟩ h
  · exact hg

theorem frameGeometry_lines_add_offsets (s : State) : (frameGeometry s).1 + 2 * (frameGeometry s).2 = 240 := by
  obtain ⟨-, -, -, -, hg⟩ | ⟨-, -, -, -, hg⟩ | ⟨-, hg⟩ := frameGeometry_cases s
  all_goals simp [hg]

theorem tallMode_eq_true_iff_lines (s : State) :
    tallMode s = true ↔ (frameGeometry s).1 = 224 ∨ (frameGeometry s).1 = 240 := by
  obtain ⟨-, -, -, -, hg⟩ | ⟨-, -, -, -, hg⟩ | ⟨-, hg⟩ := frameGeometry_cases s
  all_goals simp [tallMode, hg]

theorem tallMode_eq_true_iff_bits (s : State) :
    tallMode s = true ↔ mode4 s = true ∧ bitM2 s = true ∧ bitM1 s ≠ bitM3 s := by
  obtain ⟨h4, h2, h1, h3, hg⟩ | ⟨h4, h2, h1, h3, hg⟩ | ⟨hdefault, hg⟩ := frameGeometry_cases s
  · simp [tallMode, hg, h4, h2, h1, h3]
  · simp [tallMode, hg, h4, h2, h1, h3]
  · simp [tallMode, hg, hdefault]

theorem tallMode_eq (s : State) : tallMode s = (mode4 s && bitM2 s && (bitM1 s != bitM3 s)) := by
  rw [Bool.eq_iff_iff, tallMode_eq_true_iff_bits, Bool.and_eq_true, Bool.and_eq_true, bne_iff_ne, and_assoc]

/-- Settles O36: each clause is read off the three cases of the geometry; the latched `lines` play no part. -/
theorem frameGeometryTable : Obligations.FrameGeometryTable :=
  fun s => ⟨frameGeometry_224, frameGeometry_240, frameGeometry_default, frameGeometry_lines_add_offsets s,
    tallMode_eq_true_iff_lines s, tallMode_eq_true_iff_bits s, fun _ => rfl⟩

/-! ## The scroll parameters -/

theorem nameBase4_eq (s : State) :
    nameBase4 s = if tallMode s then (s.reg[2] &&& 0x0C#8).toNat * 1024 + 0x700 else (s.reg[2] &&& 0x0E#8).toNat * 1024 := by
  rw [nameBase4, Nat.shiftLeft_eq, Nat.shiftLeft_eq]

theorem vline_eq (s : State) (line : Nat) :
    vline s line = if tallMode s then (s.reg[9].toNat + line) % 256 else (s.reg[9].toNat + line) % 224 := by
  rw [vline, show (s.reg[9].toNat + line) &&& 0xFF = _ from Nat.and_two_pow_sub_one_eq_mod _ 8]

theorem and_seven (n : Nat) : n &&& 7 = n % 8 := Nat.and_two_pow_sub_one_eq_mod n 3

theorem and_thirtyOne (n : Nat) : n &&& 31 = n % 32 := Nat.and_two_pow_sub_one_eq_mod n 5

theorem scrollOf_eq (s : State) (line : Nat) :
    scrollOf s line =
      { rowS := nameBase4 s + vline s line / 8 * 64, rowF := nameBase4 s + line / 8 * 64
        tyS := vline s line % 8, tyF := line % 8, col0 := (256 - hscroll s line) / 8 % 32
        dx := if hscroll s line % 8 = 0 then 8 else hscroll s line % 8
        cells := if hscroll s line % 8 = 0 then 32 else 33 } := by
  simp only [scrollOf, and_seven, and_thirtyOne, Nat.shiftRight_eq_div_pow, Nat.reducePow]

/-- Settles O40: shifts and masks by powers of two are the quotients and remainders of the formulas. -/
theorem scrollParameterFormulas : Obligations.ScrollParameterFormulas := by
  intro s line
  have hformulas := scrollOf_eq s line
  rw [nameBase4_eq, vline_eq, tallMode_eq] at hformulas
  exact hformulas

end Sys2Proof.Machine
end

section
/-! PROOFS. The line-buffer writes of the line sequencer itself: the backdrop fill (R156) and the column mask (R161). -/

namespace Sys2Proof.Machine

/-- Replacing the line buffer writes the bytes that the new one holds. -/
theorem writesOnlyLb_setLb {s : State} {lb : LineBuffer} {w : Nat → Option Byte}
    (h : ∀ i, (hi : i < 304) → lb[i] = (w i).getD s.lb[i]) : WritesOnlyLb s (s.setLb lb) w :=
  ⟨rfl, fun _ => rfl, h⟩

theorem exec_lsBackfill (s : State) : exec .lsBackfill s = .next (backfill s) := rfl

theorem exec_lsMaskCol0 (s : State) : exec .lsMaskCol0 s = .next (maskCol0 s) := rfl

theorem backfill_writesOnlyLb (s : State) : WritesOnlyLb s (backfill s) (fun _ => some (backdrop s)) :=
  writesOnlyLb_setLb fun _ hi => Vector.getElem_replicate hi

/-- Settles O38: the new line buffer is 304 times the backdrop. -/
theorem backfillFillsWholeBuffer : Obligations.BackfillFillsWholeBuffer :=
  fun s => ⟨backfill s, exec_lsBackfill s, backfill_writesOnlyLb s⟩

theorem maskCol0_of_mask0 {s : State} (h : mask0 s = true) :
    maskCol0 s = s.setLb (drawPixels s.lb 8 8 (fun _ => some Config.maskIndex)) := if_pos h

theorem maskCol0_of_not_mask0 {s : State} (h : ¬ mask0 s = true) : maskCol0 s = s := if_neg h

theorem maskCol0_writesOnlyLb (s : State) :
    WritesOnlyLb s (maskCol0 s) (fun i => if mask0 s = true ∧ 8 ≤ i ∧ i ≤ 15 then some Config.maskIndex else none) := by
  by_cases hmask : mask0 s = true
  · rw [maskCol0_of_mask0 hmask]
    refine writesOnlyLb_setLb fun i hi => ?_
    rw [drawPixels_getElem, apply_ite (Option.getD · _)]
    exact if_congr (by simp only [hmask, true_and]; omega) rfl rfl
  · simp only [maskCol0_of_not_mask0 hmask, hmask]
    exact writesOnlyLb_refl s

/-- Settles O39: the mask is eight pixels at offset 8, drawn under MASK0 alone. -/
theorem columnMaskCoversEightPixels : Obligations.ColumnMaskCoversEightPixels :=
  fun s => ⟨maskCol0 s, exec_lsMaskCol0 s, maskCol0_writesOnlyLb s⟩

end Sys2Proof.Machine
end

section
/-! PROOFS. The mode-4 display as its sub-operations (R157, R159): the numbers of a pass fit the operands of the strip operations,
and no layer changes what the later ones read of the registers and the kill bits. -/

namespace Sys2Proof.Machine

/-! ## A pass as strip operations -/

/-- What the scroll parameters may be; each fits its operand of the strip operations (R70, R158). -/
theorem scrollOf_bounds (s : State) {line : Nat} (hline : line < 240) :
    (scrollOf s line).rowS < 65536 ∧ (scrollOf s line).rowF < 65536 ∧ (scrollOf s line).dx ≤ 8
      ∧ 32 ≤ (scrollOf s line).cells ∧ (scrollOf s line).cells ≤ 33 ∧ (scrollOf s line).col0 < 32
      ∧ (scrollOf s line).tyS < 8 ∧ (scrollOf s line).tyF < 8 := by
  have hbase : nameBase4 s ≤ 14 * 1024 + 0x700 := by
    have htall : (s.reg[2] &&& 0x0C#8).toNat ≤ 12 := Nat.and_le_right
    have hshort : (s.reg[2] &&& 0x0E#8).toNat ≤ 14 := Nat.and_le_right
    rw [nameBase4_eq]
    split <;> omega
  have hvline : vline s line < 256 := by
    rw [vline_eq]
    split <;> omega
  rw [scrollOf_eq]
  by_cases hfine : hscroll s line % 8 = 0
  · simp only [if_pos hfine]
    omega
  · simp only [if_neg hfine]
    omega

/-- The scroll parameters are read from the registers alone. -/
theorem scrollOf_congr {s u : State} (hreg : u.reg = s.reg) (line : Nat) : scrollOf u line = scrollOf s line :=
  calc
    scrollOf u line = scrollOf { s with reg := u.reg } line := rfl
    _ = scrollOf s line := by rw [hreg]

theorem vlock_congr {s u : State} (hreg : u.reg = s.reg) : vlock u = vlock s := by rw [vlock, hreg, vlock]

/-- A pass of `line` on `u` in strip operations made by `mk`, with the scroll parameters and VLOCK of `s` (R159). -/
def stripOps (mk : Half → Half → Byte → Byte → Byte → Instr) (s : State) (line : Nat) (u : State) : Result :=
  let p := scrollOf s line
  if vlock s then
    andThen
      (exec (mk (BitVec.ofNat 16 p.rowS) (BitVec.ofNat 16 p.dx) (BitVec.ofNat 8 (p.cells - 8)) (BitVec.ofNat 8 p.col0)
        (BitVec.ofNat 8 p.tyS)) u)
      (exec (mk (BitVec.ofNat 16 p.rowF) (BitVec.ofNat 16 (p.dx + 8 * (p.cells - 8))) 8#8
        (BitVec.ofNat 8 (p.col0 + p.cells - 8)) (BitVec.ofNat 8 p.tyF)))
  else
    exec (mk (BitVec.ofNat 16 p.rowS) (BitVec.ofNat 16 p.dx) (BitVec.ofNat 8 p.cells) (BitVec.ofNat 8 p.col0)
      (BitVec.ofNat 8 p.tyS)) u

section
variable {pass : Nat → Nat → Nat → Nat → Nat → State → Result} {mk : Half → Half → Byte → Byte → Byte → Instr}
  (hmk : ∀ row dx n col ty u, exec (mk row dx n col ty) u = pass row.toNat dx.toNat n.toNat col.toNat ty.toNat u)
include hmk

/-- A strip whose numbers fit the operands of its operation is that operation. -/
theorem exec_strip_ofNat {row dx n col ty : Nat} (hrow : row < 65536) (hdx : dx < 65536) (hn : n < 256) (hcol : col < 256)
    (hty : ty < 256) (u : State) :
    exec (mk (BitVec.ofNat 16 row) (BitVec.ofNat 16 dx) (BitVec.ofNat 8 n) (BitVec.ofNat 8 col) (BitVec.ofNat 8 ty)) u
      = pass row dx n col ty u := by
  rw [hmk, BitVec.toNat_ofNat, BitVec.toNat_ofNat, BitVec.toNat_ofNat, BitVec.toNat_ofNat, BitVec.toNat_ofNat,
    Nat.mod_eq_of_lt hrow, Nat.mod_eq_of_lt hdx, Nat.mod_eq_of_lt hn, Nat.mod_eq_of_lt hcol, Nat.mod_eq_of_lt hty]

/-- A pass is its strip operations, whatever was drawn since the scroll parameters were read. -/
theorem passStrips_eq_stripOps {s u : State} (hreg : u.reg = s.reg) {line : Nat} (hline : line < 240) :
    passStrips pass line u = stripOps mk s line u := by
  obtain ⟨hrowS, hrowF, hdx, hcells, hcells', hcol, htyS, htyF⟩ := scrollOf_bounds s hline
  simp only [passStrips, stripOps, scrollOf_congr hreg, vlock_congr hreg]
  split
  · rw [exec_strip_ofNat hmk (by omega) (by omega) (by omega) (by omega) (by omega)]
    exact congrArg (andThen _) (funext fun v => Eq.symm
      (exec_strip_ofNat hmk (by omega) (by omega) (by decide) (by omega) (by omega) v))
  · rw [exec_strip_ofNat hmk (by omega) (by omega) (by omega) (by omega) (by omega)]

end

theorem exec_scM4Low (row dx : Half) (n col ty : Byte) (s : State) :
    exec (.scM4Low row dx n col ty) s = lowStrip row.toNat dx.toNat n.toNat col.toNat ty.toNat s := rfl

theorem exec_scM4High (row dx : Half) (n col ty : Byte) (s : State) :
    exec (.scM4High row dx n col ty) s = highStrip row.toNat dx.toNat n.toNat col.toNat ty.toNat s := rfl

/-! ## What a layer keeps -/

/-- The registers and the kill bits, by which the layers of a line are chosen and placed, are in `t` as in `s`. -/
def ControlsKept (s t : State) : Prop := t.reg = s.reg ∧ t.kill = s.kill

theorem ControlsKept.trans {s u t : State} (hu : ControlsKept s u) (ht : ControlsKept u t) : ControlsKept s t :=
  ⟨ht.1.trans hu.1, ht.2.trans hu.2⟩

theorem controlsKept_of_frame {s t : State} (h : t = s.setLb t.lb) : ControlsKept s t := by
  rw [h]
  exact ⟨rfl, rfl⟩

/-- A pass only changes the line buffer, if each of its strips does. -/
theorem passStrips_frame {pass : Nat → Nat → Nat → Nat → Nat → State → Result}
    (hpass : ∀ {row dx n col ty s t}, pass row dx n col ty s = .next t → t = s.setLb t.lb)
    {line : Nat} {s t : State} (h : passStrips pass line s = .next t) : t = s.setLb t.lb := by
  unfold passStrips at h
  split at h
  · obtain ⟨u, hu, ht⟩ := andThen_eq_next.1 h
    rw [hpass ht, hpass hu]
    rfl
  · exact hpass h

theorem spriteLayer_controlsKept {line : Nat} {s t : State} (h : drawM4 (scanM4 line s) = .next t) : ControlsKept s t := by
  rw [drawM4_frame h]
  exact ⟨rfl, rfl⟩

/-- A layer keeps the controls whether it is killed or not. -/
theorem unlessKilled_controlsKept {killed : Bool} {f : State → Result} {s t : State}
    (hf : f s = .next t → ControlsKept s t) (h : unlessKilled killed f s = .next t) : ControlsKept s t := by
  cases killed with
  | false => exact hf h
  | true =>
    cases h
    exact ⟨rfl, rfl⟩

/-! ## LS.M4.DISPLAY -/

theorem exec_lsM4Display {line : Byte} (hline : line.toNat < 240) (s : State) :
    exec (.lsM4Display line) s = displayM4 line.toNat s := if_pos hline

theorem exec_ssM4Scan {line : Byte} (hline : line.toNat < 240) (s : State) :
    exec (.ssM4Scan line) s = .next (scanM4 line.toNat s) := if_pos hline

/-- Sequences whose second parts agree wherever the first one leads. -/
theorem andThen_congr {r : Result} {f g : State → Result} (h : ∀ u, r = .next u → f u = g u) :
    andThen r f = andThen r g := by
  cases r with
  | next u => exact h u rfl
  | fault e => cases e
  | refused e => rfl

section
variable {line : Byte} (hline : line.toNat < 240) {s u : State} (hkept : ControlsKept s u)
include hline hkept

theorem lowLayer_eq :
    unlessKilled (killBg u) (passStrips lowStrip line.toNat) u
      = if s.kill.getLsbD 0 then .next u else stripOps .scM4Low s line.toNat u := by
  rw [unlessKilled, killBg, hkept.2, passStrips_eq_stripOps exec_scM4Low hkept.1 hline]

theorem highLayer_eq :
    unlessKilled (killFg u) (passStrips highStrip line.toNat) u
      = if s.kill.getLsbD 2 then .next u else stripOps .scM4High s line.toNat u := by
  rw [unlessKilled, killFg, hkept.2, passStrips_eq_stripOps exec_scM4High hkept.1 hline]

theorem spriteLayer_eq :
    unlessKilled (killSpr u) (fun v => drawM4 (scanM4 line.toNat v)) u
      = if s.kill.getLsbD 1 then .next u else andThen (exec (.ssM4Scan line) u) (exec .ssM4Draw) := by
  rw [unlessKilled, killSpr, hkept.2, exec_ssM4Scan hline, andThen_next, exec_ssM4Draw]

end

/-- Settles O42: each layer is its operations, with the registers and kill bits the display began with. -/
theorem tileModeDisplayRunsLayersInOrder : Obligations.TileModeDisplayRunsLayersInOrder := by
  intro line s hline
  have hstart : ControlsKept s s := ⟨rfl, rfl⟩
  rw [exec_lsM4Display hline, displayM4]
  refine (andThen_congr fun u hu => ?_).trans (congrArg (andThen · _) (lowLayer_eq hline hstart))
  have hkeptU : ControlsKept s u :=
    unlessKilled_controlsKept (fun h => controlsKept_of_frame (passStrips_frame lowStrip_frame h)) hu
  refine (andThen_congr fun v hv => ?_).trans (congrArg (andThen · _) (spriteLayer_eq hline hkeptU))
  have hkeptV : ControlsKept s v := hkeptU.trans (unlessKilled_controlsKept spriteLayer_controlsKept hv)
  exact highLayer_eq hline hkeptV

end Sys2Proof.Machine
end

section
/-! PROOFS. The lookup table as arithmetic on its source colours (R171 to R175), and the row a finalized line is handed over in
(R177). -/

namespace Sys2Proof.Machine

/-! ## Channels (R172) -/

theorem toNat_rep24 : ∀ c : BitVec 2, (rep24 c).toNat = c.toNat * 5 := by decide

/-- A 4-bit channel widened to 5 bits: its top bit is repeated below it. -/
def widen5 (c : Nat) : Nat := 2 * c + c / 8

/-- A 4-bit channel widened to 6 bits: its two top bits are repeated below it. -/
def widen6 (c : Nat) : Nat := 4 * c + c / 4

theorem toNat_rep45 : ∀ c : Nibble, (rep45 c).toNat = widen5 c.toNat := by decide

theorem toNat_rep46 : ∀ c : Nibble, (rep46 c).toNat = widen6 c.toNat := by decide

/-- The channels of a colour as numbers, red first. -/
def Colour.channels (c : Colour) : Nat × Nat × Nat := (c.r.toNat, c.g.toNat, c.b.toNat)

theorem channels_cramColour (f : Config.CramFormat) (e : Half) :
    (cramColour f e).channels =
      if f = .sms6 then (e.toNat % 4 * 5, e.toNat / 4 % 4 * 5, e.toNat / 16 % 4 * 5)
      else (e.toNat % 16, e.toNat / 16 % 16, e.toNat / 256 % 16) := by
  cases f with
  | sms6 => simp [cramColour, Colour.channels, toNat_rep24, Nat.shiftRight_eq_div_pow]
  | gg12 => simp [cramColour, Colour.channels, Nat.shiftRight_eq_div_pow]

theorem channels_tmsColour (e : BitVec 12) :
    (tmsColour e).channels = (e.toNat % 16, e.toNat / 16 % 16, e.toNat / 256) := by
  have htop : e.toNat / 256 < 16 := by omega
  simp [tmsColour, Colour.channels, Nat.shiftRight_eq_div_pow, Nat.mod_eq_of_lt htop]

/-- The source colour is the masked entry of colour RAM in mode 4, of the fixed palette in mode 2 (R172, R175). -/
theorem channels_sourceColour (s : State) (i : Nat) :
    (sourceColour s i).channels =
      if s.reg[0].getLsbD 2 then (cramColour s.params.cramFormat (s.cram[i % 32]'(Nat.mod_lt _ (by decide)))).channels
      else (tmsColour (s.params.tmsPalette[i % 16]'(Nat.mod_lt _ (by decide)))).channels :=
  apply_ite Colour.channels _ _ _

/-! ## Layouts (R173) -/

section
variable {pixel : Colour → Half}

theorem toNat_pixel_rgb565 (h : layout .rgb565 = some pixel) (c : Colour) :
    (pixel c).toNat = widen5 c.channels.1 * 2048 + widen6 c.channels.2.1 * 32 + widen5 c.channels.2.2 := by
  cases h
  simp only [toNat_append_add, toNat_rep45, toNat_rep46, Colour.channels]
  omega

theorem toNat_pixel_bgr555 (h : layout .bgr555 = some pixel) (c : Colour) :
    (pixel c).toNat = widen5 c.channels.2.2 * 1024 + widen5 c.channels.2.1 * 32 + widen5 c.channels.1 := by
  cases h
  simp only [toNat_append_add, toNat_rep45, Colour.channels, BitVec.toNat_ofNat]
  omega

theorem toNat_pixel_bgr565 (h : layout .bgr565 = some pixel) (c : Colour) :
    (pixel c).toNat = widen5 c.channels.2.2 * 2048 + widen6 c.channels.2.1 * 32 + widen5 c.channels.1 := by
  cases h
  simp only [toNat_append_add, toNat_rep45, toNat_rep46, Colour.channels]
  omega

end

/-! ## PF.REBUILD -/

theorem rebuiltLut_getElem (s : State) (pixel : Colour → Half) {i : Nat} (hi : i < 256) :
    (rebuiltLut s pixel)[i] = if i = 0xE0 then 0#16 else pixel (sourceColour s i) := tabulate_getElem 256 _ i hi

theorem rebuiltLut_getElem_of_ne (s : State) (pixel : Colour → Half) {i : Nat} (hi : i < 256) (hne : i ≠ 0xE0) :
    (rebuiltLut s pixel)[i] = pixel (sourceColour s i) := by
  rw [rebuiltLut_getElem s pixel hi, if_neg hne]

theorem exists_layout_of_isDirect {f : Format} (h : f.isDirect) : ∃ pixel, layout f = some pixel := by
  obtain rfl | rfl | rfl := h
  all_goals exact ⟨_, rfl⟩

theorem exec_pfRebuild (s : State) : exec .pfRebuild s = rebuild s := rfl

/-- Settles O56: an entry is its source colour's pixel, and the pixel of each layout is the sum of its widened channels. -/
theorem rebuildFillsTable : Obligations.RebuildFillsTable := by
  intro s hdirect entry five six
  obtain ⟨pixel, hpixel⟩ := exists_layout_of_isDirect hdirect
  have hentry : ∀ i, (sourceColour s i).channels = entry i := fun i => by
    rw [channels_sourceColour, channels_cramColour, channels_tmsColour]
  refine ⟨_, rebuild_eq_next.mpr ⟨pixel, hpixel, rfl⟩, rfl, fun _ => rfl, rebuiltLut_getElem s pixel (by decide),
    fun i hi hne => ?_⟩
  rw [rebuiltLut_getElem_of_ne s pixel hi hne, ← hentry]
  exact ⟨fun hfmt => toNat_pixel_rgb565 (hfmt ▸ hpixel) _, fun hfmt => toNat_pixel_bgr555 (hfmt ▸ hpixel) _,
    fun hfmt => toNat_pixel_bgr565 (hfmt ▸ hpixel) _⟩

/-! ## PF.FINALIZE -/

theorem exec_pfFinalize (s : State) : exec .pfFinalize s = finalize s := rfl

theorem finalize_of_indexed8 {s : State} (h : s.fmt = .indexed8) : finalize s = .next (s.putRow (indexedRow s)) := by
  rw [finalize, h]

theorem finalize_of_isDirect {s : State} (h : s.fmt.isDirect) : finalize s = finalizeDirect s := by
  obtain h | h | h := h
  all_goals rw [finalize, h]

theorem finalize_of_internal {s : State} (h : s.fmt = .internal) : finalize s = .next s := by
  rw [finalize, h]

theorem readRow_putRow_self (s : State) (p : Row) : readRow (s.putRow p).out s.outRow = some p := by
  rw [putRow_out, readRow_writeRow, if_pos rfl]

theorem readRow_putRow_of_ne (s : State) (p : Row) {r : Nat} (h : r ≠ s.outRow) :
    readRow (s.putRow p).out r = readRow s.out r := by
  rw [putRow_out, readRow_writeRow, if_neg h.symm]

theorem visible_eq (s : State) {x : Nat} (hx : x < 256) : visible s x = s.lb[8 + x] := dif_pos (by omega)

/-- In a direct-colour format the lazy rebuild completes, and changes the table, `dirty` and the ghost count only. -/
theorem rebuildIfDirty_completes {s : State} (h : s.fmt.isDirect) :
    ∃ u, rebuildIfDirty s = .next u ∧ u = { s with lut := u.lut, dirty := u.dirty, rebuildCount := u.rebuildCount } := by
  unfold rebuildIfDirty
  split
  · obtain ⟨pixel, hpixel⟩ := exists_layout_of_isDirect h
    exact ⟨_, rebuild_eq_next.mpr ⟨pixel, hpixel, rfl⟩, rfl⟩
  · exact ⟨s, rfl, rfl⟩

/-- Settles O58: the row is written from the state after the lazy rebuild, which keeps `LB`, `OUT` and `out_row`. -/
theorem finalizeHandsOverVisibleWindow : Obligations.FinalizeHandsOverVisibleWindow := by
  intro s
  simp only [exec_pfRebuild, exec_pfFinalize]
  refine ⟨fun hfmt => ?_, fun hdirect => ?_, finalize_of_internal⟩
  · refine ⟨_, finalize_of_indexed8 hfmt, rfl, fun _ => rfl, ⟨_, readRow_putRow_self s _, fun x hx => ?_⟩,
      fun r hr => readRow_putRow_of_ne s _ hr⟩
    rw [tabulate_getElem, visible_eq s hx]
  · obtain ⟨u, hu, hframe⟩ := rebuildIfDirty_completes hdirect
    have hlb : u.lb = s.lb := by rw [hframe]
    have hout : u.out = s.out := by rw [hframe]
    have hrow : u.outRow = s.outRow := by rw [hframe]
    have hvram : SameVram s u := by rw [hframe]; exact fun _ => rfl
    have hfinal : finalize s = .next (u.putRow (directRow u)) :=
      (finalize_of_isDirect hdirect).trans (finalizeDirect_eq_next.mpr ⟨u, hu, rfl⟩)
    rw [← hrow, ← hout]
    refine ⟨u, _, hu, hfinal, rfl, hvram, ⟨_, readRow_putRow_self u _, fun x hx => ?_⟩,
      fun r hr => readRow_putRow_of_ne u _ hr⟩
    simp only [tabulate_getElem, visible_eq u hx, hlb]

end Sys2Proof.Machine
end

section
/-! PROOFS. The serial form and its decoder are inverse to each other, format by format (R60, R75), and a stream that ends inside
an operation does not decode. -/

namespace Sys2Proof

/-! ## Decoding through the operation map -/

section
variable {cmd : Byte} {bs : List Byte} {operands : List Byte → Option (Instr × List Byte)}
  (hmap : operandsOf cmd.toNat = some operands)
include hmap

theorem decode_cons_of_some {r : Instr × List Byte} (h : operands bs = some r) : decode (cmd :: bs) = .ok r := by
  simp only [decode, hmap, h]

theorem decode_cons_of_none (h : operands bs = none) : decode (cmd :: bs) = .error .truncated := by
  simp only [decode, hmap, h]

theorem operands_of_decode_cons {r : Instr × List Byte} (h : decode (cmd :: bs) = .ok r) : operands bs = some r := by
  cases hbs : operands bs with
  | none => rw [decode_cons_of_none hmap hbs] at h; cases h
  | some r' => rw [decode_cons_of_some hmap hbs] at h; cases h; rfl

end

/-! ## Reading the operands that were written -/

theorem decodeTd4_bytes (mk : Half → Pack → Byte → Instr) (sx : Half) (pack : Pack) (pal : Byte) (rest : List Byte) :
    decodeTd4 mk (bytes16 sx ++ bytes32 pack ++ [pal] ++ rest) = some (mk sx pack pal, rest) := by
  simp [decodeTd4]

theorem decodeTd2_bytes (mk : Half → Byte → Byte → Instr) (sx : Half) (pack pal : Byte) (rest : List Byte) :
    decodeTd2 mk (bytes16 sx ++ [pack, pal] ++ rest) = some (mk sx pack pal, rest) := by
  simp [decodeTd2]

theorem decodeStrip_bytes (mk : Half → Half → Byte → Byte → Byte → Instr) (row dx : Half) (n col ty : Byte) (rest : List Byte) :
    decodeStrip mk (bytes16 row ++ bytes16 dx ++ [n, col, ty] ++ rest) = some (mk row dx n col ty, rest) := by
  simp [decodeStrip]

/-- Settles O4: each operation's format reads its operand bytes back, the formats by their lemmas. -/
theorem decodeOfEncode : Obligations.DecodeOfEncode := by
  intro i rest
  cases i with
  | tdM4Norm sx pack pal | tdM4Flip sx pack pal | tdM4NormBg sx pack pal | tdM4FlipBg sx pack pal | tdM4Dbl sx pack pal =>
    exact decode_cons_of_some rfl (decodeTd4_bytes _ sx pack pal rest)
  | tdM2Spr sx pack pal | tdM2Bg sx pack pal | tdM2SprDbl sx pack pal =>
    exact decode_cons_of_some rfl (decodeTd2_bytes _ sx pack pal rest)
  | scM4Low row dx n col ty | scM4High row dx n col ty =>
    exact decode_cons_of_some rfl (decodeStrip_bytes _ row dx n col ty rest)
  | ssM4Scan line | ssM2Scan line | scM2Bg line | lsLineDraw line | lsM4Display line | lsM2Display line | pfSelect line => rfl
  | ssM4Draw | ssM2Draw | lsFrameStart | lsBackfill | lsMaskCol0 | pfRebuild | pfFinalize => rfl

/-! ## The bytes that were read -/

theorem eq_of_take8 {bs rest : List Byte} {b : Byte} (h : take8 bs = some (b, rest)) : bs = b :: rest := by
  cases bs with
  | nil => cases h
  | cons b' r => cases h; rfl

theorem bytes16_append (b1 b0 : Byte) : bytes16 (b1 ++ b0 : Half) = [b0, b1] := by
  simp only [bytes16]
  rw [BitVec.extractLsb'_append_eq_right, BitVec.extractLsb'_append_eq_left]

theorem eq_of_take16 {bs rest : List Byte} {v : Half} (h : take16 bs = some (v, rest)) : bs = bytes16 v ++ rest := by
  match bs, h with
  | b0 :: b1 :: r, h => cases h; rw [bytes16_append]; rfl

theorem bytes32_append (b3 b2 b1 b0 : Byte) :
    bytes32 (((b3 ++ b2 : Half) ++ b1 : BitVec 24) ++ b0 : Pack) = [b0, b1, b2, b3] := by
  simp (disch := decide) only [bytes32, BitVec.extractLsb'_append_eq_right, BitVec.extractLsb'_append_eq_of_le, Nat.reduceSub,
    BitVec.extractLsb'_eq_self]

theorem eq_of_take32 {bs rest : List Byte} {v : Pack} (h : take32 bs = some (v, rest)) : bs = bytes32 v ++ rest := by
  match bs, h with
  | b0 :: b1 :: b2 :: b3 :: r, h => cases h; rw [bytes32_append]; rfl

/-- Whatever `operands` reads for the command `cmd` is an operation with that command, and the bytes read are its operands'. -/
def ReadsWrittenBytes (cmd : Nat) (operands : List Byte → Option (Instr × List Byte)) : Prop :=
  ∀ bs i rest, operands bs = some (i, rest) → (command i).toNat = cmd ∧ bs = operandBytes i ++ rest

section
variable {cmd : Nat}

theorem readsWrittenBytes_td4 {mk : Half → Pack → Byte → Instr} (hcmd : ∀ sx pack pal, (command (mk sx pack pal)).toNat = cmd)
    (hbytes : ∀ sx pack pal, operandBytes (mk sx pack pal) = bytes16 sx ++ bytes32 pack ++ [pal]) :
    ReadsWrittenBytes cmd (decodeTd4 mk) := by
  intro bs i rest h
  unfold decodeTd4 at h
  split at h
  · cases h
  next sx bs1 h1 =>
  split at h
  · cases h
  next pack bs2 h2 =>
  split at h
  · cases h
  next pal bs3 h3 =>
  cases h
  refine ⟨hcmd sx pack pal, ?_⟩
  rw [hbytes, eq_of_take16 h1, eq_of_take32 h2, eq_of_take8 h3]
  simp

theorem readsWrittenBytes_td2 {mk : Half → Byte → Byte → Instr} (hcmd : ∀ sx pack pal, (command (mk sx pack pal)).toNat = cmd)
    (hbytes : ∀ sx pack pal, operandBytes (mk sx pack pal) = bytes16 sx ++ [pack, pal]) :
    ReadsWrittenBytes cmd (decodeTd2 mk) := by
  intro bs i rest h
  unfold decodeTd2 at h
  split at h
  · cases h
  next sx bs1 h1 =>
  split at h
  · cases h
  next pack bs2 h2 =>
  split at h
  · cases h
  next pal bs3 h3 =>
  cases h
  refine ⟨hcmd sx pack pal, ?_⟩
  rw [hbytes, eq_of_take16 h1, eq_of_take8 h2, eq_of_take8 h3]
  simp

theorem readsWrittenBytes_strip {mk : Half → Half → Byte → Byte → Byte → Instr}
    (hcmd : ∀ row dx n col ty, (command (mk row dx n col ty)).toNat = cmd)
    (hbytes : ∀ row dx n col ty, operandBytes (mk row dx n col ty) = bytes16 row ++ bytes16 dx ++ [n, col, ty]) :
    ReadsWrittenBytes cmd (decodeStrip mk) := by
  intro bs i rest h
  unfold decodeStrip at h
  split at h
  · cases h
  next row bs1 h1 =>
  split at h
  · cases h
  next dx bs2 h2 =>
  split at h
  · cases h
  next n bs3 h3 =>
  split at h
  · cases h
  next col bs4 h4 =>
  split at h
  · cases h
  next ty bs5 h5 =>
  cases h
  refine ⟨hcmd row dx n col ty, ?_⟩
  rw [hbytes, eq_of_take16 h1, eq_of_take16 h2, eq_of_take8 h3, eq_of_take8 h4, eq_of_take8 h5]
  simp

theorem readsWrittenBytes_byte {mk : Byte → Instr} (hcmd : ∀ b, (command (mk b)).toNat = cmd)
    (hbytes : ∀ b, operandBytes (mk b) = [b]) : ReadsWrittenBytes cmd (decodeByte mk) := by
  intro bs i rest h
  unfold decodeByte at h
  split at h
  · cases h
  next b bs1 h1 =>
  cases h
  exact ⟨hcmd b, by rw [hbytes, eq_of_take8 h1]; rfl⟩

theorem readsWrittenBytes_bare {i : Instr} (hcmd : (command i).toNat = cmd) (hbytes : operandBytes i = []) :
    ReadsWrittenBytes cmd (decodeBare i) := by
  intro bs j rest h
  cases h
  exact ⟨hcmd, by rw [hbytes]; rfl⟩

/-- Every entry of the operation map reads what its operation writes. -/
theorem operandsOf_readsWrittenBytes {operands : List Byte → Option (Instr × List Byte)} (h : operandsOf cmd = some operands) :
    ReadsWrittenBytes cmd operands := by
  unfold operandsOf at h
  split at h
  case h_1 | h_2 | h_3 | h_4 | h_5 =>
    cases h
    exact readsWrittenBytes_td4 (fun _ _ _ => rfl) (fun _ _ _ => rfl)
  case h_6 | h_7 | h_8 =>
    cases h
    exact readsWrittenBytes_td2 (fun _ _ _ => rfl) (fun _ _ _ => rfl)
  case h_13 | h_14 =>
    cases h
    exact readsWrittenBytes_strip (fun _ _ _ _ _ => rfl) (fun _ _ _ _ _ => rfl)
  case h_9 | h_11 | h_15 | h_17 | h_19 | h_20 | h_22 =>
    cases h
    exact readsWrittenBytes_byte (fun _ => rfl) (fun _ => rfl)
  case h_10 | h_12 | h_16 | h_18 | h_21 | h_23 | h_24 =>
    cases h
    exact readsWrittenBytes_bare rfl rfl
  case h_25 => cases h

end

/-- Bytes that decode start with their operation's command, which the operation map knows. -/
theorem operandsOf_of_decode {cmd : Byte} {bs : List Byte} {r : Instr × List Byte} (h : decode (cmd :: bs) = .ok r) :
    ∃ operands, operandsOf cmd.toNat = some operands := by
  cases hmap : operandsOf cmd.toNat with
  | none => simp only [decode, hmap] at h; cases h
  | some operands => exact ⟨operands, rfl⟩

/-- Settles O5: the command byte picks the format, and the format reads what its operation writes. -/
theorem encodeOfDecode : Obligations.EncodeOfDecode := by
  intro bs rest i h
  cases bs with
  | nil => cases h
  | cons cmd bs =>
    obtain ⟨operands, hmap⟩ := operandsOf_of_decode h
    obtain ⟨hcmd, hbytes⟩ := operandsOf_readsWrittenBytes hmap bs i rest (operands_of_decode_cons hmap h)
    rw [encode, BitVec.eq_of_toNat_eq hcmd, hbytes]
    rfl

/-! ## Streams that end inside an operation -/

theorem length_encode (i : Instr) : (encode i).length = serialLength (command i).toNat := by
  cases i <;> rfl

theorem operandsOf_command (i : Instr) : ∃ operands, operandsOf (command i).toNat = some operands :=
  operandsOf_of_decode (decodeOfEncode i [])

/-- A proper part of a serial form, its command byte at least, does not decode: what it decoded to would have the same command and
so the same length. -/
theorem decode_take_encode {i : Instr} {k : Nat} (hk : k + 1 < (encode i).length) :
    decode ((encode i).take (k + 1)) = .error .truncated := by
  obtain ⟨operands, hmap⟩ := operandsOf_command i
  rw [encode, List.take_succ_cons]
  cases hread : operands ((operandBytes i).take k) with
  | none => exact decode_cons_of_none hmap hread
  | some r =>
    obtain ⟨j, rest⟩ := r
    obtain ⟨hcmd, hbytes⟩ := operandsOf_readsWrittenBytes hmap _ j rest hread
    have hlength : (encode j).length = (encode i).length := by rw [length_encode, length_encode, hcmd]
    have hshort := congrArg List.length hbytes
    simp only [encode, List.length_cons, List.length_take, List.length_append] at hlength hshort hk
    omega

/-- Settles O7: the cut bytes do not decode, and a step refuses bytes that do not with the decoder's reason. -/
theorem truncatedOperationsRefused : Obligations.TruncatedOperationsRefused := by
  intro s i k h hpos hk hhost
  obtain ⟨k, rfl⟩ := Nat.exists_eq_add_one.mpr hpos
  exact Machine.step_of_decode_error hhost (decode_take_encode hk)

/-- Settles O8: the six byte strings are decoded by evaluation. -/
theorem vectorBytesDecode : Obligations.VectorBytesDecode := ⟨rfl, rfl, rfl, rfl, rfl, rfl⟩

end Sys2Proof
end

section
/-! PROOFS. The host's side of a step: reset, an idle step, an operation taken from the stream, and the directives of R79. -/

namespace Sys2Proof.Machine

/-! ## Reset -/

/-- Settles O1: the reset state is a record that holds these values. -/
theorem resetHoldsTheStatedValues : Obligations.ResetHoldsTheStatedValues := ⟨rfl, rfl, rfl, rfl, rfl, rfl⟩

/-- Settles O2: at reset the memories are empty, every slot is at 0, and no frame has started. -/
theorem resetMeetsInvariant : Obligations.ResetMeetsInvariant where
  vramWf := rfl
  outWf := rfl
  slotRange := fun k hk => by
    have hslot : State.reset.slot[k] = Slot.empty := Vector.getElem_replicate hk
    rw [hslot]
    decide
  modeChanged := ⟨fun _ => rfl, fun _ => rfl⟩
  geometry := fun h => absurd rfl h
  told := fun h => absurd rfl h
  skipping := fun h => absurd h (Nat.lt_irrefl 0)
  format := fun _ h => nomatch h
  row := fun _ h => nomatch h

/-! ## Steps -/

/-- Settles O10: with no action in the list the fetch is idle. -/
theorem idleStepKeepsEverything : Obligations.IdleStepKeepsEverything := by
  intro s hhost
  simp only [step, fetch, hhost]

theorem pushStream_eq (rest : List Byte) (h : List HostAction) :
    pushStream rest h = if rest = [] then h else .issue rest :: h := by
  cases rest <;> rfl

theorem step_of_decode_ok {s : State} {b : Byte} {bs rest : List Byte} {h : List HostAction} {i : Instr}
    (hhost : s.host = .issue (b :: bs) :: h) (hdecode : decode (b :: bs) = .ok (i, rest)) :
    step s = exec i (s.setHost (pushStream rest h)) := by
  simp only [step, fetch, hhost, fetchStream, hdecode]

/-- Settles O9: the fetch hands the decoded operation over and puts the bytes left over back. -/
theorem stepRunsTheDecodedOperation : Obligations.StepRunsTheDecodedOperation := by
  intro s b bs rest h i hhost hdecode
  rw [step_of_decode_ok hhost hdecode, pushStream_eq]
  rfl

theorem step_of_directive {s : State} {a : HostAction} {h : List HostAction} (hhost : s.host = a :: h)
    (ha : ∀ bs, a ≠ .issue bs) : step s = .next (applyAction a (s.setHost h)) := by
  cases a with
  | issue bs => exact absurd rfl (ha bs)
  | reg | vram | vram16 | vramFill | cram | dirty | kill | status | hooks => simp only [step, fetch, hhost]

/-! ## VRAM after the host's writes -/

theorem Memory.read_write {m : Memory} (hm : m.wf = true) (a : Nat) (v : Byte) (x : Nat) :
    (m.write a v).read x = if a = x then v else m.read x := Memory.read_writeFrom hm v x

/-- Settles O11: reading after a write, and a write inside VRAM keeps the canonical form. -/
theorem memoryReadAfterWrite : Obligations.MemoryReadAfterWrite := by
  intro m a b v hm ha
  simp only [Memory.read_write hm, eq_comm (a := a), Memory.wf_write hm ha, and_self]

/-- An address that none of the consecutive bytes goes to reads as before. -/
theorem Memory.read_writeBytes_of_ne {bs : List Byte} {m : Memory} (hm : m.wf = true) {a x : Nat}
    (h : ∀ j < bs.length, (a + j) % 0x4000 ≠ x) : (m.writeBytes a bs).read x = m.read x := by
  induction bs generalizing m a with
  | nil => rfl
  | cons b bs ih =>
    have hhead : a % 0x4000 ≠ x := h 0 (Nat.zero_lt_succ _)
    have htail : ∀ j < bs.length, (a + 1 + j) % 0x4000 ≠ x := fun j hj => by
      rw [show a + 1 + j = a + (j + 1) by omega]
      exact h (j + 1) (Nat.succ_lt_succ hj)
    rw [Memory.writeBytes, ih (Memory.wf_write hm (Nat.mod_lt _ (by decide)) b) htail, Memory.read_write hm, if_neg hhead]

/-- Of no more consecutive bytes than VRAM holds each is read back at its masked address. -/
theorem Memory.read_writeBytes {bs : List Byte} {m : Memory} (hm : m.wf = true) (hlength : bs.length ≤ 0x4000) {a j : Nat}
    (hj : j < bs.length) : (m.writeBytes a bs).read ((a + j) % 0x4000) = bs[j] := by
  induction bs generalizing m a j with
  | nil => exact absurd hj (Nat.not_lt_zero j)
  | cons b bs ih =>
    rw [List.length_cons] at hlength hj
    have hwf : (m.write (a % 0x4000) b).wf = true := Memory.wf_write hm (Nat.mod_lt _ (by decide)) b
    rw [Memory.writeBytes]
    cases j with
    | zero =>
      rw [Memory.read_writeBytes_of_ne hwf (fun j hj => by omega), Memory.read_write hm]
      exact if_pos rfl
    | succ j =>
      rw [show a + (j + 1) = a + 1 + j by omega, ih hwf (by omega) (by omega)]
      rfl

/-- A state whose VRAM holds consecutive bytes written from `a`: each is read back, every other address reads as before. -/
theorem vread8_writeBytes {s t : State} {a : Nat} {bs : List Byte} (hwf : s.vram.wf = true) (hlength : bs.length ≤ 0x4000)
    (hvram : t.vram = s.vram.writeBytes a bs) :
    t.vram.wf = true
      ∧ (∀ j, (hj : j < bs.length) → vread8 t (a + j) = bs[j])
      ∧ ∀ x, (∀ j, j < bs.length → (a + j) % 0x4000 ≠ x % 0x4000) → vread8 t x = vread8 s x := by
  simp only [vread8, hvram]
  exact ⟨Memory.wf_writeBytes hwf _ _, fun _ hj => Memory.read_writeBytes hwf hlength hj,
    fun _ h => Memory.read_writeBytes_of_ne hwf h⟩

theorem extractLsb'_eq_setWidth_shiftRight {w : Nat} (x : BitVec w) (k n : Nat) : x.extractLsb' k n = (x >>> k).setWidth n := by
  rw [BitVec.extractLsb', ← BitVec.toNat_ushiftRight, BitVec.ofNat_toNat]

theorem halfBytes_eq (w : Half) : halfBytes w = [w.setWidth 8, (w >>> 8).setWidth 8] := by
  rw [halfBytes, extractLsb'_eq_setWidth_shiftRight, extractLsb'_eq_setWidth_shiftRight, BitVec.ushiftRight_zero]

/-- Settles O12: all three directives store consecutive bytes from their address. -/
theorem hostVramWritesLand : Obligations.HostVramWritesLand := by
  intro s a bs h hwf hlength hhost
  have hstep : step s = .next { s with vram := s.vram.writeBytes a.toNat bs, host := h } := by
    obtain hhost | ⟨ws, hhost, rfl⟩ | ⟨n, b, hhost, rfl⟩ := hhost
    · exact step_of_directive hhost nofun
    · rw [← funext halfBytes_eq]
      exact step_of_directive hhost nofun
    · exact step_of_directive hhost nofun
  exact ⟨_, hstep, rfl, vread8_writeBytes hwf hlength rfl⟩

/-! ## Colour RAM after the host's writes -/

theorem writeCram_getElem_of_ne {vs : List Half} {cram : Vector Half 32} {i m : Nat} (hm : m < 32)
    (h : ∀ j < vs.length, (i + j) % 32 ≠ m) : (writeCram cram i vs)[m] = cram[m] := by
  induction vs generalizing cram i with
  | nil => rfl
  | cons v vs ih =>
    have hhead : i % 32 ≠ m := h 0 (Nat.zero_lt_succ _)
    have htail : ∀ j < vs.length, (i + 1 + j) % 32 ≠ m := fun j hj => by
      rw [show i + 1 + j = i + (j + 1) by omega]
      exact h (j + 1) (Nat.succ_lt_succ hj)
    rw [writeCram, ih htail, Vector.getElem_setIfInBounds, if_neg hhead]

/-- Of no more consecutive entries than colour RAM holds each stands at its masked index. -/
theorem writeCram_getElem {vs : List Half} {cram : Vector Half 32} (hlength : vs.length ≤ 32) {i j : Nat} (hj : j < vs.length) :
    (writeCram cram i vs)[(i + j) % 32]'(Nat.mod_lt _ (by decide)) = vs[j] := by
  induction vs generalizing cram i j with
  | nil => exact absurd hj (Nat.not_lt_zero j)
  | cons v vs ih =>
    rw [List.length_cons] at hlength hj
    simp only [writeCram]
    cases j with
    | zero =>
      rw [writeCram_getElem_of_ne _ (fun j hj => by omega), Vector.getElem_setIfInBounds]
      exact if_pos rfl
    | succ j =>
      simp only [show i + (j + 1) = i + 1 + j by omega]
      rw [ih (by omega) (by omega)]
      rfl

/-- Settles O13: each directive is one update of the state; a register and a colour-RAM entry are read back. -/
theorem hostDirectivesTakeEffect : Obligations.HostDirectivesTakeEffect := by
  intro s h
  refine ⟨fun n v hhost => ⟨_, step_of_directive hhost nofun, rfl, fun m hm => ?_⟩,
    fun i vs hlength hhost => ⟨_, step_of_directive hhost nofun, rfl, fun j hj => writeCram_getElem hlength hj,
      fun m hm hne => writeCram_getElem_of_ne hm hne⟩,
    fun hhost => step_of_directive hhost nofun, fun v hhost => step_of_directive hhost nofun,
    fun v hhost => step_of_directive hhost nofun, fun b e hhost => step_of_directive hhost nofun⟩
  exact (Vector.getElem_set n.isLt hm).trans (if_congr eq_comm rfl rfl)

end Sys2Proof.Machine
end

section
/-! PROOFS. What the two sprite scans collect (R110 to R121): the entries on the line before the sentinel, cut at the capacity,
as slots. -/

namespace Sys2Proof.Machine

/-! ## The end of a scan -/

section
variable {cap : Nat} (hcap : cap ≤ 8) (q : List Nat) (mk : Nat → Slot) (bits : Byte) (s : State)
include hcap

theorem commitScan_nslot_take : (commitScan ((q.take cap).map mk) bits s).nslot.val = min cap q.length := by
  simp only [commitScan_nslot, List.length_map, List.length_take]
  omega

/-- The slots from `nslot` on keep what they held (R111, R120). -/
theorem commitScan_slot_of_ge {k : Nat} (hk : k < 8) (h : (commitScan ((q.take cap).map mk) bits s).nslot.val ≤ k) :
    (commitScan ((q.take cap).map mk) bits s).slot[k] = s.slot[k] := by
  rw [commitScan_nslot_take hcap] at h
  exact fillSlots_getElem_ge s.slot (by simpa using h) hk

/-- A slot below `nslot` is made from the entry at its place among those on the line. -/
theorem commitScan_slotAt {k : Nat} (h : k < (commitScan ((q.take cap).map mk) bits s).nslot.val) :
    ∃ i, q[k]? = some i ∧ slotAt (commitScan ((q.take cap).map mk) bits s) k = mk i := by
  rw [commitScan_nslot_take hcap] at h
  have hq : k < q.length := by omega
  have hk : k < 8 := by omega
  have hslots : k < ((q.take cap).map mk).length := by simpa using h
  refine ⟨q[k], List.getElem?_eq_getElem hq, ?_⟩
  rw [slotAt, dif_pos hk]
  exact (fillSlots_getElem s.slot hslots hk).trans (by simp)

end

/-- More than one slot is filled exactly if more than one entry is on the line. -/
theorem collision_take {cap : Nat} (hcap : 1 < cap) (q : List Nat) (mk : Nat → Slot) :
    collision ((q.take cap).map mk).length = if 1 < q.length then 0x20#8 else 0#8 := by
  rw [collision, List.length_map, List.length_take]
  exact if_congr (by omega) rfl rfl

/-- A masked register value is no more than the mask. -/
theorem toNat_and_le (b m : Byte) : (b &&& m).toNat ≤ m.toNat := by
  rw [BitVec.toNat_and]
  exact Nat.and_le_right

/-! ## SS.M4.SCAN -/

/-- The mode-4 entries on `line` before the sentinel, in table order (R111). -/
def entries4 (s : State) (line : Nat) : List Nat :=
  ((List.range 64).takeWhile (fun i => !stop4 s i)).filter (hit4 s line)

theorem scanM4_eq (s : State) (line : Nat) :
    scanM4 line s = commitScan (((entries4 s line).take 8).map (slot4 s line)) (overflow4 (entries4 s line)[8]?) s := by
  rw [scanM4, walk4_eq]
  rfl

theorem satBase4_eq (s : State) : satBase4 s = (s.reg[5] &&& 0x7E#8).toNat * 128 := Nat.shiftLeft_eq _ 7

theorem hit4_iff (s : State) (line i : Nat) : hit4 s line i = true ↔ sprY4 s i ≤ line ∧ line < sprY4 s i + sprHeight s := by
  rw [hit4, qualifies, decide_eq_true_iff]
  omega

theorem hit4_of_mem {s : State} {line k i : Nat} (h : (entries4 s line)[k]? = some i) : hit4 s line i = true :=
  (List.mem_filter.mp (List.mem_of_getElem? h)).2

theorem shiftRight_zoomShift (s : State) (n : Nat) : n >>> zoomShift s = n / (if zoom s then 2 else 1) := by
  rw [zoomShift]
  cases zoom s with
  | false => simp
  | true => exact Nat.shiftRight_eq_div_pow n 1

/-- The row of an entry within its sprite, in pattern rows: less than 16, and less than 8 without SIZE. -/
theorem spriteRow_lt {s : State} {n : Nat} (h : n < sprHeight s) :
    n / (if zoom s then 2 else 1) < if sprSize s then 16 else 8 :=
  (Nat.div_lt_iff_lt_mul (by split <;> decide)).mpr h

/-- The pattern row of an entry on the line lies in VRAM without wrapping. -/
theorem slot4_addr {s : State} {line i : Nat} (h : hit4 s line i = true) :
    (slot4 s line i).addr.toNat = (s.reg[6] &&& 0x04#8).toNat * 2048
      + (vread8 s (satBase4 s + 0x81 + 2 * i) &&& nameMask4 s).toNat * 32
      + (line - sprY4 s i) / (if zoom s then 2 else 1) * 4 := by
  have hrow : (line - sprY4 s i) / (if zoom s then 2 else 1) < if sprSize s then 16 else 8 :=
    spriteRow_lt (by have := (hit4_iff s line i).mp h; omega)
  have hbase : (s.reg[6] &&& 0x04#8).toNat ≤ 4 := toNat_and_le _ _
  have hname := toNat_and_le (vread8 s (satBase4 s + 0x81 + 2 * i)) (nameMask4 s)
  have hmask : (nameMask4 s).toNat = if sprSize s then 254 else 255 := apply_ite BitVec.toNat _ _ _
  simp only [slot4, sprBase4, shiftRight_zoomShift, Nat.shiftLeft_eq, BitVec.toNat_ofNat, Nat.reducePow]
  refine Nat.mod_eq_of_lt ?_
  cases hsize : sprSize s <;> simp only [hsize, Bool.false_eq_true, if_true, if_false] at hrow hmask <;> omega

/-- Settles O29: the closed form of the walk, its tests written out, with the slot file and `status` it is committed to. -/
theorem tileModeScanFillsSlots : Obligations.TileModeScanFillsSlots := by
  intro line s hline sat y h tall q
  have hy : ∀ i, sprY4 s i = y i := fun i => by rw [sprY4, satBase4_eq]; rfl
  have hq : q = entries4 s line.toNat := by
    have hstop : ∀ i, stop4 s i = (y i == 0xD1 && !tall) := fun i => by rw [stop4, hy, tallMode_eq]; rfl
    have hhit : ∀ i, hit4 s line.toNat i = decide (y i ≤ line.toNat ∧ line.toNat < y i + h) := fun i => by
      rw [Bool.eq_iff_iff, hit4_iff, decide_eq_true_iff, hy]
      rfl
    rw [entries4, funext hhit]
    simp only [hstop]
    rfl
  have hover : overflow4 q[8]? = if 8 < q.length then 0x40#8 else 0#8 := by
    by_cases hlen : 8 < q.length
    · rw [List.getElem?_eq_getElem hlen, if_pos hlen]; rfl
    · rw [List.getElem?_eq_none (by omega), if_neg hlen]; rfl
  have hscan : exec (.ssM4Scan line) s = .next (commitScan ((q.take 8).map (slot4 s line.toNat)) (overflow4 q[8]?) s) := by
    rw [exec_ssM4Scan hline, scanM4_eq, hq]
  refine ⟨_, hscan, rfl, fun _ => rfl, commitScan_nslot_take (by decide) q _ _ s,
    fun k hk => commitScan_slot_of_ge (by decide) q _ _ s hk, ?_, fun k hk => ?_⟩
  · rw [commitScan_status, hover, collision_take (by decide)]
  · obtain ⟨i, hi, hslot⟩ := commitScan_slotAt (by decide) q _ _ s hk
    refine ⟨i, hi, ?_, ?_⟩
    · rw [hslot, slot4, satBase4_eq]
      rfl
    · rw [hslot, slot4_addr (hit4_of_mem (hq ▸ hi)), satBase4_eq, hy]
      rfl

/-! ## SS.M2.SCAN -/

/-- The mode-2 entries on `line` before the sentinel, in table order (R120). -/
def entries2 (s : State) (line : Nat) : List Nat :=
  ((List.range 32).takeWhile (fun i => !stop2 s i)).filter (hit2 s line)

theorem scanM2_eq (s : State) (line : Nat) :
    scanM2 line s = commitScan (((entries2 s line).take 4).map (slot2 s line)) (overflow2 (entries2 s line)[4]?) s := by
  rw [scanM2, walk2_eq]
  rfl

theorem satBase2_eq (s : State) : satBase2 s = (s.reg[5] &&& 0x7F#8).toNat * 128 := Nat.shiftLeft_eq _ 7

theorem hit2_iff (s : State) (line i : Nat) :
    hit2 s line i = true ↔ signedY (sprRawY2 s i) ≤ (line : Int) ∧ (line : Int) < signedY (sprRawY2 s i) + sprHeight s := by
  rw [hit2, qualifies, decide_eq_true_iff]

theorem hit2_of_mem {s : State} {line k i : Nat} (h : (entries2 s line)[k]? = some i) : hit2 s line i = true :=
  (List.mem_filter.mp (List.mem_of_getElem? h)).2

theorem slot2_colour (s : State) (line i : Nat) :
    (slot2 s line i).colour = some ((vread8 s (satBase2 s + 4 * i + 3)).setWidth 4) := by
  rw [slot2, extractLsb'_eq_setWidth_shiftRight, BitVec.ushiftRight_zero]

/-- The pattern byte of an entry on the line lies in VRAM without wrapping. -/
theorem slot2_addr {s : State} {line i : Nat} (h : hit2 s line i = true) :
    ((slot2 s line i).addr.toNat : Int) = (s.reg[6] &&& 0x07#8).toNat * 2048
      + (vread8 s (satBase2 s + 4 * i + 2) &&& nameMask2 s).toNat * 8
      + ((line : Int) - signedY (sprRawY2 s i)) / (if zoom s then 2 else 1) := by
  obtain ⟨hlo, hhi⟩ := (hit2_iff s line i).mp h
  obtain ⟨n, hn⟩ : ∃ n : Nat, (line : Int) - signedY (sprRawY2 s i) = n := ⟨_, (Int.toNat_of_nonneg (by omega)).symm⟩
  have hrow : n / (if zoom s then 2 else 1) < if sprSize s then 16 else 8 := spriteRow_lt (by omega)
  have hbase : (s.reg[6] &&& 0x07#8).toNat ≤ 7 := toNat_and_le _ _
  have hname := toNat_and_le (vread8 s (satBase2 s + 4 * i + 2)) (nameMask2 s)
  have hmask : (nameMask2 s).toNat = if sprSize s then 252 else 255 := apply_ite BitVec.toNat _ _ _
  have hdiv : (n : Int) / (if zoom s then 2 else 1) = ((n / (if zoom s then 2 else 1) : Nat) : Int) := by
    cases zoom s <;> simp
  simp only [slot2, sprBase2, shiftRight_zoomShift, Nat.shiftLeft_eq, BitVec.toNat_ofNat, Nat.reducePow, hn, Int.toNat_natCast,
    hdiv]
  rw [Nat.mod_eq_of_lt]
  · push_cast; rfl
  · cases hsize : sprSize s <;> simp only [hsize, Bool.false_eq_true, if_true, if_false] at hrow hmask <;> omega

theorem exec_ssM2Scan {line : Byte} (hline : line.toNat < 240) (s : State) :
    exec (.ssM2Scan line) s = .next (scanM2 line.toNat s) := if_pos hline

/-- Settles O30: as SS.M4.SCAN, with the walk over the mode-2 table. -/
theorem legacyScanFillsSlots : Obligations.LegacyScanFillsSlots := by
  intro line s hline sat raw y h q
  have hraw : ∀ i, sprRawY2 s i = raw i := fun i => by rw [sprRawY2, satBase2_eq]; rfl
  have hy : ∀ i, signedY (sprRawY2 s i) = y i := fun i => by rw [hraw]; rfl
  have hq : q = entries2 s line.toNat := by
    have hstop : ∀ i, stop2 s i = (raw i == 0xD1) := fun i => by rw [stop2, hraw]; rfl
    have hhit : ∀ i, hit2 s line.toNat i = decide (y i ≤ (line.toNat : Int) ∧ (line.toNat : Int) < y i + h) := fun i => by
      rw [Bool.eq_iff_iff, hit2_iff, decide_eq_true_iff, hy]
      rfl
    rw [entries2, funext hhit]
    simp only [hstop]
    rfl
  have hscan : exec (.ssM2Scan line) s = .next (commitScan ((q.take 4).map (slot2 s line.toNat)) (overflow2 q[4]?) s) := by
    rw [exec_ssM2Scan hline, scanM2_eq, hq]
  refine ⟨_, hscan, rfl, fun _ => rfl, commitScan_nslot_take (by decide) q _ _ s,
    fun k hk => commitScan_slot_of_ge (by decide) q _ _ s hk, ?_, fun k hk => ?_⟩
  · rw [commitScan_status, collision_take (by decide)]
    cases q[4]? <;> rfl
  · obtain ⟨i, hi, hslot⟩ := commitScan_slotAt (by decide) q _ _ s hk
    refine ⟨i, hi, ?_, ?_, ?_⟩
    · rw [hslot, slot2, satBase2_eq]
    · rw [hslot, slot2_colour, satBase2_eq]
    · rw [hslot, slot2_addr (hit2_of_mem (hq ▸ hi)), satBase2_eq, hy]
      rfl

end Sys2Proof.Machine
end

section
/-! PROOFS. What the mode-2 sprite draw (R122) and the mode-2 background (R134) write. -/

namespace Sys2Proof.Machine

/-! ## One half of a sprite -/

theorem natCast_halfWidth (s : State) : (halfWidth s : Int) = if zoom s then 16 else 8 := Nat.cast_ite ..

/-- What pixel `x` of a half writes, each pixel twice if zoomed. -/
def halfPixel2 (s : State) (pack pal : Byte) (x : Nat) : Option Byte :=
  sprite2 pal (pix1 pack (if zoom s then x / 2 else x))

/-- The line-buffer bytes that a half at `x` writes: none where `x` is not positive (R122). -/
def halfLane2 (s : State) (x : Int) (pack pal : Byte) (i : Nat) : Option Byte :=
  if 0 < x then spriteLane x (halfWidth s) (halfPixel2 s pack pal) i else none

theorem drawHalf2_of_pos {x : Int} (hx : 0 < x) (pack pal : Byte) (s : State) :
    drawHalf2 x pack pal s = tdDraw x (halfWidth s) (halfPixel2 s pack pal) s := by
  unfold drawHalf2 halfWidth halfPixel2
  rw [if_pos hx]
  cases zoom s <;> rfl

/-- A half that, where it is drawn, lies in the line buffer completes, whatever the line buffer holds, and writes its lane. -/
theorem drawHalf2_draws {x : Int} {s : State} (hfit : 0 < x → x + halfWidth s ≤ 304) (pack pal : Byte) (lb : LineBuffer) :
    ∃ lb', drawHalf2 x pack pal (s.setLb lb) = .next (s.setLb lb')
      ∧ WritesOnlyLb (s.setLb lb) (s.setLb lb') (halfLane2 s x pack pal) := by
  by_cases hx : 0 < x
  · obtain ⟨t, ht, hwrites⟩ := tdDraw_draws_spriteLane ⟨hx.le, hfit hx⟩ (halfPixel2 s pack pal) (s.setLb lb)
    have hframe : t = s.setLb t.lb := hwrites.1
    rw [funext fun i => show halfLane2 s x pack pal i = _ from if_pos hx]
    exact ⟨t.lb, (drawHalf2_of_pos hx pack pal _).trans (ht.trans (congrArg _ hframe)), hframe ▸ hwrites⟩
  · rw [funext fun i => show halfLane2 s x pack pal i = none from if_neg hx]
    exact ⟨lb, if_neg hx, writesOnlyLb_refl _⟩

/-- A half and the one a width to the right of it have no byte in common. -/
theorem halfLane2_disjoint (s : State) (x : Int) (pack pack' pal pal' : Byte) (i : Nat) :
    halfLane2 s x pack pal i = none ∨ halfLane2 s (x + halfWidth s) pack' pal' i = none := by
  unfold halfLane2 spriteLane
  by_cases hleft : (i : Int) < x + halfWidth s
  · refine .inr (ite_eq_right_iff.mpr fun _ => if_neg ?_)
    omega
  · refine .inl (ite_eq_right_iff.mpr fun _ => if_neg ?_)
    omega

/-! ## SS.M2.DRAW -/

/-- The line-buffer bytes that the first half of `slot[k]` writes. -/
def firstLane2 (s : State) (k : Nat) : Nat → Option Byte :=
  halfLane2 s (slotAt s k).x (vread8 s (slotAt s k).addr.toNat) ((slotColour s k).setWidth 8)

/-- The line-buffer bytes that the second half of `slot[k]` writes, 16 bytes on and one width right, with SIZE only. -/
def secondLane2 (s : State) (k i : Nat) : Option Byte :=
  if sprSize s then
    halfLane2 s ((slotAt s k).x + halfWidth s) (vread8 s ((slotAt s k).addr.toNat + 16)) ((slotColour s k).setWidth 8) i
  else none

/-- The halves of a slot have no byte in common, so their order does not matter. -/
theorem secondLane2_or_firstLane2 (s : State) (k i : Nat) :
    (secondLane2 s k i).or (firstLane2 s k i) = (firstLane2 s k i).or (secondLane2 s k i) := by
  unfold secondLane2 firstLane2
  split
  · obtain h | h := halfLane2_disjoint s (slotAt s k).x (vread8 s (slotAt s k).addr.toNat)
      (vread8 s ((slotAt s k).addr.toNat + 16)) ((slotColour s k).setWidth 8) ((slotColour s k).setWidth 8) i
    all_goals rw [h, Option.or_none, Option.none_or]
  · rw [Option.or_none, Option.none_or]

/-- A slot whose halves lie in the line buffer is drawn, whatever the line buffer holds, and writes both lanes. -/
theorem drawSlot2_draws {s : State} (hfit : SlotsFit2 s) {k : Nat} (hk : k < s.nslot.val) (lb : LineBuffer) :
    ∃ t, drawSlot2 k (s.setLb lb) = .next t
      ∧ WritesOnlyLb (s.setLb lb) t (fun i => (firstLane2 s k i).or (secondLane2 s k i)) := by
  obtain ⟨hfirst, hsecond⟩ := hfit k hk
  rw [← natCast_halfWidth] at hfirst hsecond
  obtain ⟨lb1, hdraw1, hwrites1⟩ := drawHalf2_draws hfirst (vread8 s (slotAt s k).addr.toNat) ((slotColour s k).setWidth 8) lb
  have hslot : drawSlot2 k (s.setLb lb) =
      if sprSize s then
        drawHalf2 ((slotAt s k).x + halfWidth s) (vread8 s ((slotAt s k).addr.toNat + 16)) ((slotColour s k).setWidth 8)
          (s.setLb lb1)
      else .next (s.setLb lb1) := congrArg (andThen · _) hdraw1
  simp only [← secondLane2_or_firstLane2]
  rw [hslot]
  by_cases hsize : sprSize s = true
  · obtain ⟨lb2, hdraw2, hwrites2⟩ := drawHalf2_draws (s := s) (fun hx => (by have := hsecond hsize hx; omega))
      (vread8 s ((slotAt s k).addr.toNat + 16)) ((slotColour s k).setWidth 8) lb1
    simp only [secondLane2, if_pos hsize]
    exact ⟨_, hdraw2, hwrites1.trans hwrites2⟩
  · simp only [secondLane2, if_neg hsize]
    exact ⟨_, rfl, hwrites1.trans (writesOnlyLb_refl _)⟩

theorem hasUncoloured_eq_false_iff {s : State} :
    hasUncoloured s = false ↔ ∀ k, k < s.nslot.val → (slotAt s k).colour ≠ none := by
  simp [hasUncoloured]

/-- The draw writes, at every byte, what the lowest slot with a pixel there writes, and then steps the free value's counter. -/
theorem drawM2_draws {s : State} (hfit : SlotsFit2 s) :
    ∃ u, drawM2 s = .next (useFreeColours u) ∧ WritesOnlyLb s u (fun i =>
      (List.range s.nslot.val).findSome? (fun k => (firstLane2 s k i).or (secondLane2 s k i))) := by
  obtain ⟨u, hu, hwrites⟩ := forEach_reverse_writesOnlyLb (fun _ hk => drawSlot2_draws hfit (List.mem_range.mp hk))
  exact ⟨u, congrArg (andThen · _) hu, hwrites⟩

theorem exec_ssM2Draw (s : State) : exec .ssM2Draw s = drawM2 s := rfl

theorem sprite2_setWidth : ∀ (c : Nibble) (bit : Bool),
    sprite2 (c.setWidth 8) bit = if bit = true ∧ c ≠ 0#4 then some (c.setWidth 8) else none := by decide

/-- Settles O32: the slots are drawn from the last to the first, each half by the rule for its pixels. -/
theorem legacyDrawPutsLowestSlotOnTop : Obligations.LegacyDrawPutsLowestSlotOnTop := by
  intro s hfit w half
  obtain ⟨u, hdraw, hframe, hvram, hlb⟩ := drawM2_draws hfit
  have hhalf : ∀ (k : Nat) (x : Int) (a i : Nat),
      halfLane2 s x (vread8 s a) ((slotColour s k).setWidth 8) i = half k x a i := fun k x a i => by
    simp only [halfLane2, funext fun p => show halfPixel2 s (vread8 s a) ((slotColour s k).setWidth 8) p = _ from
      sprite2_setWidth _ _]
    rfl
  refine ⟨useFreeColours u, hdraw, ?_, hvram, fun hcoloured => ?_, fun i hi => ?_⟩
  · rw [hframe]; rfl
  · have hnone : hasUncoloured u = false := by
      rw [hframe]
      exact hasUncoloured_eq_false_iff.mpr hcoloured
    rw [useFreeColours_freeCount, hnone, hframe]
    rfl
  · rw [useFreeColours_lb, hlb i hi]
    simp only [firstLane2, secondLane2, hhalf]
    rfl

/-! ## SC.M2.BG -/

theorem backgroundColumn2_draws {line k : Nat} (h : k < 32) (s : State) :
    ∃ t, backgroundColumn2 line k s = .next t ∧ WritesOnlyLb s t
      (lane (8 + 8 * k) 8 (fun x => background2 (rowColours2 s line k) (pix1 (rowPattern2 s line k) x))) := by
  rw [backgroundColumn2_eq]
  exact tdDraw_draws (by omega) _ s

theorem background2Strip_draws (line : Nat) (s : State) :
    ∃ t, background2Strip line s = .next t ∧ WritesOnlyLb s t
      (lane 8 256 (fun j => background2 (rowColours2 s line (j / 8)) (pix1 (rowPattern2 s line (j / 8)) (j % 8)))) :=
  forEach_columns_writesOnlyLb (n := 32)
    (px := fun k x => background2 (rowColours2 s line k) (pix1 (rowPattern2 s line k) x))
    (fun _ hk lb => backgroundColumn2_draws hk (s.setLb lb))

theorem rowOffset2_eq (s : State) (line k : Nat) :
    rowOffset2 s line k = (vread8 s ((s.reg[2] &&& 0x0F#8).toNat * 1024 + line / 8 * 32 + k)).toNat * 8 + line % 8 := by
  rw [rowOffset2, nameBase2, and_seven, Nat.shiftLeft_eq, Nat.shiftLeft_eq, Nat.shiftRight_eq_div_pow]

theorem rowPattern2_eq (s : State) (line k : Nat) :
    rowPattern2 s line k = vread8 s ((s.reg[4] &&& 0x04#8).toNat * 2048 + line / 64 * 2048 + rowOffset2 s line k) := by
  rw [rowPattern2, patternBase2, Nat.shiftLeft_eq, Nat.shiftLeft_eq, Nat.shiftRight_eq_div_pow]

theorem rowColours2_eq (s : State) (line k : Nat) :
    rowColours2 s line k = vread8 s ((s.reg[3] &&& 0x80#8).toNat * 64 + line / 64 * 2048 + rowOffset2 s line k) := by
  rw [rowColours2, colourBase2, Nat.shiftLeft_eq, Nat.shiftLeft_eq, Nat.shiftRight_eq_div_pow]

theorem exec_scM2Bg {line : Byte} (hline : line.toNat < 240) (s : State) :
    exec (.scM2Bg line) s = background2Strip line.toNat s := if_pos hline

/-- Settles O35: 32 columns side by side, each one draw of its pattern byte in its two colours. -/
theorem legacyBackgroundDrawsWindow : Obligations.LegacyBackgroundDrawsWindow := by
  intro line s hline
  have hdraws := background2Strip_draws line.toNat s
  simp only [background2_eq, rowPattern2_eq, rowColours2_eq, rowOffset2_eq] at hdraws
  rw [exec_scM2Bg hline]
  exact hdraws

end Sys2Proof.Machine
end

section
/-! PROOFS. Rows of four bitplanes and their pixels (R91, R101, R102), and where the scroll puts the picture (R158). -/

namespace Sys2Proof.Machine

/-! ## Bitplanes and pixels -/

theorem getLsbD_packOf (v : Nat → Nibble) {i : Nat} (hi : i < 32) :
    (packOf v).getLsbD i = (v (7 - i % 8)).getLsbD (i / 8) := by
  rw [packOf, BitVec.getLsbD_ofFnLE]
  exact dif_pos hi

theorem packOf_pix4 (pack : Pack) : packOf (pix4 pack) = pack := by
  refine BitVec.eq_of_getLsbD_eq fun i hi => ?_
  rw [getLsbD_packOf _ hi, getLsbD_pix4 _ (by omega) (by omega)]
  exact congrArg pack.getLsbD (by omega)

theorem pix4_packOf (v : Nat → Nibble) {p : Nat} (hp : p < 8) : pix4 (packOf v) p = v p := by
  refine BitVec.eq_of_getLsbD_eq fun k hk => ?_
  rw [getLsbD_pix4 _ hp hk, getLsbD_packOf _ (by omega), show (8 * k + (7 - p)) / 8 = k by omega,
    show 7 - (8 * k + (7 - p)) % 8 = p by omega]

/-- Settles O23: bit `8 * k + j` of the row is bit `k` of pixel `7 - j`, in both directions. -/
theorem pixelRowsAreInBijection : Obligations.PixelRowsAreInBijection :=
  ⟨packOf_pix4, fun v _ hp => pix4_packOf v hp⟩

/-- A pixel with its bits spread over the lowest bits of the four bytes: the row whose last pixel alone is not 0. -/
def spreadPixel (v : Nibble) : Pack := packOf (fun x => if x = 7 then v else 0#4)

theorem getLsbD_lowestBits : ∀ i < 32, (0x01010101#32).getLsbD i = decide (i % 8 = 0) := by decide

/-- Shifting a row and masking the lowest bit of each byte leaves one pixel, spread. -/
theorem shiftRight_and_lowestBits (pack : Pack) {p : Nat} (hp : p < 8) :
    (pack >>> (7 - p)) &&& 0x01010101#32 = spreadPixel (pix4 pack p) := by
  refine BitVec.eq_of_getLsbD_eq fun i hi => ?_
  rw [BitVec.getLsbD_and, BitVec.getLsbD_ushiftRight, getLsbD_lowestBits i hi, spreadPixel, getLsbD_packOf _ hi]
  by_cases hlow : i % 8 = 0
  · rw [if_pos (by omega), getLsbD_pix4 _ hp (by omega), decide_eq_true hlow, Bool.and_true]
    exact congrArg pack.getLsbD (by omega)
  · rw [if_neg (by omega), decide_eq_false hlow, Bool.and_false, BitVec.getLsbD_zero]

/-- The multiplication gathers a spread pixel in the top four bits. -/
theorem spreadPixel_mul : ∀ v : Nibble, (spreadPixel v * 0x10204080#32) >>> 28 = v.setWidth 32 := by decide +kernel

/-- Settles O22: the mask leaves the pixel spread over four bytes, and the multiplication gathers it. -/
theorem multiplyTrickGivesPixel : Obligations.MultiplyTrickGivesPixel := by
  intro pack p hp
  rw [shiftRight_and_lowestBits pack hp, spreadPixel_mul]

/-! ## The scroll -/

theorem hscroll_lt (s : State) (line : Nat) : hscroll s line < 256 := by
  unfold hscroll
  split <;> omega

/-- Settles O41: by the formulas of R158, in the two cases of a fine scroll of 0 or not. -/
theorem scrollMovesPictureRight : Obligations.ScrollMovesPictureRight := by
  intro s line x hx
  have hlt := hscroll_lt s line
  rw [scrollOf_eq]
  by_cases hfine : hscroll s line % 8 = 0
  · simp only [if_pos hfine]
    omega
  · simp only [if_neg hfine]
    omega

end Sys2Proof.Machine
end

section
/-! PROOFS. LS.FRAME_START (R150) and PF.SELECT (R170, R215): the two operations between frames. -/

namespace Sys2Proof.Machine

/-! ## LS.FRAME_START -/

theorem exec_lsFrameStart (s : State) : exec .lsFrameStart s = .next (frameStart s) := rfl

/-- The host is told if the mode changed or the geometry is not the one last sent. -/
theorem notifyGeometry_of_changed {s : State} (h : s.modeChanged = true ∨ s.notified ≠ some (liveGeometry s)) :
    notifyGeometry s =
      { s with calls := .geometryChange (liveGeometry s) :: s.calls, notified := some (liveGeometry s), modeChanged := false } :=
  if_pos (by simpa using h)

theorem notifyGeometry_of_told {s : State} (hmode : s.modeChanged = false) (htold : s.notified = some (liveGeometry s)) :
    notifyGeometry s = s := if_neg (by simp [hmode, htold])

/-- Either way the live geometry is the one last sent and the mode change is answered; the rest is kept but for the calls. -/
theorem notifyGeometry_eq (s : State) :
    notifyGeometry s =
      { s with calls := (notifyGeometry s).calls, notified := some (liveGeometry s), modeChanged := false } := by
  by_cases h : s.modeChanged = true ∨ s.notified ≠ some (liveGeometry s)
  · rw [notifyGeometry_of_changed h]
  · obtain ⟨hmode, htold⟩ := not_or.mp h
    have hmode := Bool.eq_false_of_not_eq_true hmode
    have htold := not_not.mp htold
    rw [notifyGeometry_of_told hmode htold, ← hmode, ← htold]

theorem frameStart_eq (s : State) :
    frameStart s =
      { s with calls := (notifyGeometry s).calls, notified := some (liveGeometry s), modeChanged := false
               lines := (frameGeometry s).1, screenOffset := (frameGeometry s).2, skipCount := 0
               outRow := (frameGeometry s).2, order := .inFrame 0 } := by
  rw [frameStart, notifyGeometry_eq]

/-- Settles O37: the two answers of the notification, with the latched geometry. -/
theorem frameStartLatchesAndNotifies : Obligations.FrameStartLatchesAndNotifies := by
  intro s g
  refine ⟨_, (exec_lsFrameStart s).trans (congrArg _ (frameStart_eq s)), rfl, fun _ => rfl, rfl, rfl, rfl, rfl, rfl,
    fun h => ⟨rfl, ?_⟩, fun ⟨hmode, htold⟩ => ⟨rfl, ?_⟩⟩
  · show (notifyGeometry s).calls = _
    rw [notifyGeometry_of_changed h]
    rfl
  · show (notifyGeometry s).calls = _
    rw [notifyGeometry_of_told hmode htold]

/-! ## PF.SELECT -/

theorem exec_pfSelect (code : Byte) (s : State) : exec (.pfSelect code) s = select code.toNat s := rfl

theorem formatOf_eq_none_iff {n : Nat} : formatOf n = none ↔ 5 ≤ n := by
  match n with
  | 0 | 1 | 2 | 3 | 4 => simp [formatOf]
  | n + 5 => simp [formatOf]

section
variable {n : Nat} {s : State}

theorem select_of_reserved (h : 5 ≤ n) : select n s = .refused .reservedFormatCode := by
  simp only [select, formatOf_eq_none_iff.mpr h]

variable {f : Format} (hf : formatOf n = some f)
include hf

theorem select_of_midFrame (h : midFrame s = true) : select n s = .refused .selectInMidFrame := by
  simp only [select, hf, if_pos h]

theorem select_of_not_midFrame (h : midFrame s = false) :
    select n s = .next { s with fmt := f, modeChanged := true, order := .noFrame } := by
  simp only [select, hf, h, Bool.false_eq_true, if_false]

end

theorem exists_formatOf {n : Nat} (h : n < 5) : ∃ f, formatOf n = some f := by
  rw [← Option.ne_none_iff_exists', Ne, formatOf_eq_none_iff]
  omega

/-- Mid-frame: some line of the frame was issued and, where frames end at their last line, that line is to come. -/
theorem midFrame_eq_true_iff {s : State} :
    midFrame s = true ↔ ∃ n, s.order = .inFrame n ∧ 0 < n ∧ (s.params.frameEnd = .atNextFrameStart ∨ n < s.lines) := by
  unfold midFrame
  cases s.order <;> simp

/-- Settles O54: outside mid-frame the select is one update, after which an LS.FRAME_START is owed. -/
theorem selectSetsFormat : Obligations.SelectSetsFormat := by
  intro code s f hcode horder
  have hf : formatOf code.toNat = some f := by
    obtain ⟨rfl, rfl⟩ | ⟨rfl, rfl⟩ | ⟨rfl, rfl⟩ | ⟨rfl, rfl⟩ | ⟨rfl, rfl⟩ := hcode
    all_goals rfl
  have hmid : midFrame s = false := by
    refine Bool.eq_false_of_not_eq_true fun h => ?_
    obtain ⟨n, hn, hpos, hend⟩ := midFrame_eq_true_iff.mp h
    obtain rfl | ⟨hlast, hlines⟩ := horder n hn
    · exact Nat.lt_irrefl 0 hpos
    · rw [hlast] at hend
      exact hend.elim nofun (Nat.not_lt.mpr hlines)
  exact ⟨_, select_of_not_midFrame hf hmid, rfl, fun _ => rfl, fun _ ⟨_, _, horder⟩ => horder rfl⟩

/-- Settles O55: the reserved codes name no format. -/
theorem reservedFormatCodesRefused : Obligations.ReservedFormatCodesRefused :=
  fun _ _ hcode => select_of_reserved hcode

/-- Settles O59: the code names a format, and the record of the lines says mid-frame. -/
theorem selectRefusedInMidFrame : Obligations.SelectRefusedInMidFrame := by
  intro code s n hcode horder hpos hend
  obtain ⟨f, hf⟩ := exists_formatOf hcode
  exact select_of_midFrame hf (midFrame_eq_true_iff.mpr ⟨n, horder, hpos, hend⟩)

/-! ## PF.REBUILD -/

theorem layout_eq_none_iff {f : Format} : layout f = none ↔ ¬ f.isDirect := by
  cases f <;> simp [layout, Format.isDirect]

/-- Settles O57: a format that is not direct colour has no layout. -/
theorem rebuildNeedsDirectColour : Obligations.RebuildNeedsDirectColour := by
  intro s hdirect
  rw [exec_pfRebuild, rebuild]
  simp only [layout_eq_none_iff.mpr hdirect]

end Sys2Proof.Machine
end

section
/-! PROOFS. The two displays (R157, R160): every layer completes, because a scan leaves slots that fit the line buffer and the
strips of a pass do (R221), and a layer changes the line buffer, the slots and, by OR, `status` only. -/

namespace Sys2Proof.Machine

/-! ## The slots a scan leaves -/

theorem slotAt_scanM4 {s : State} {line k : Nat} (h : k < (scanM4 line s).nslot.val) :
    ∃ i, slotAt (scanM4 line s) k = slot4 s line i := by
  rw [scanM4_eq] at h ⊢
  obtain ⟨i, -, hslot⟩ := commitScan_slotAt (by decide) _ _ _ s h
  exact ⟨i, hslot⟩

theorem slotAt_scanM2 {s : State} {line k : Nat} (h : k < (scanM2 line s).nslot.val) :
    ∃ i, slotAt (scanM2 line s) k = slot2 s line i := by
  rw [scanM2_eq] at h ⊢
  obtain ⟨i, -, hslot⟩ := commitScan_slotAt (by decide) _ _ _ s h
  exact ⟨i, hslot⟩

theorem slotsFit4_scanM4 (line : Nat) (s : State) : SlotsFit4 (scanM4 line s) := by
  intro k hk
  obtain ⟨i, hslot⟩ := slotAt_scanM4 hk
  obtain ⟨hlo, hhi⟩ := slot4_x_range s line i
  rw [hslot]
  split <;> omega

theorem slotsFit2_scanM2 (line : Nat) (s : State) : SlotsFit2 (scanM2 line s) := by
  intro k hk
  obtain ⟨i, hslot⟩ := slotAt_scanM2 hk
  obtain ⟨hlo, hhi⟩ := slot2_x_range s line i
  rw [hslot]
  split <;> omega

/-- Every slot that a mode-2 scan leaves below `nslot` has a colour. -/
theorem hasUncoloured_scanM2 (line : Nat) (s : State) : hasUncoloured (scanM2 line s) = false := by
  refine hasUncoloured_eq_false_iff.mpr fun k hk => ?_
  obtain ⟨i, hslot⟩ := slotAt_scanM2 hk
  rw [hslot, slot2_colour]
  exact Option.some_ne_none _

/-- Every slot's x lies in R11's range. -/
def SlotsInRange (slot : Vector Slot 8) : Prop := ∀ k, (h : k < 8) → -24 ≤ slot[k].x ∧ slot[k].x ≤ 263

theorem slotsInRange_fillSlots {slots : List Slot} {old : Vector Slot 8} (hold : SlotsInRange old)
    (hslots : ∀ t ∈ slots, -24 ≤ t.x ∧ t.x ≤ 263) : SlotsInRange (fillSlots slots old) := by
  intro k hk
  by_cases h : k < slots.length
  · rw [fillSlots_getElem old h hk]
    exact hslots _ (List.getElem_mem h)
  · rw [fillSlots_getElem_ge old (by omega) hk]
    exact hold k hk

/-! ## What a layer may change -/

theorem or_and_eq_zero {a b m : Byte} (ha : a &&& m = 0#8) (hb : b &&& m = 0#8) : (a ||| b) &&& m = 0#8 := by
  rw [BitVec.and_comm, BitVec.and_or_distrib_left, BitVec.and_comm, ha, BitVec.and_comm, hb, BitVec.or_zero]

/-- From `s` to `t` the line buffer, the slots (within R11's range) and, by OR of bits outside `keep`, `status` may have changed,
and nothing else. -/
def LayerChange (keep : Byte) (s t : State) : Prop :=
  ∃ lb slot nslot bits, t = { s with lb := lb, slot := slot, nslot := nslot, status := s.status ||| bits }
    ∧ bits &&& keep = 0#8 ∧ (SlotsInRange s.slot → SlotsInRange slot)

theorem LayerChange.of_frame {keep : Byte} {s t : State} (h : t = s.setLb t.lb) : LayerChange keep s t :=
  ⟨t.lb, s.slot, s.nslot, 0#8, by rw [BitVec.or_zero]; exact h, BitVec.zero_and, id⟩

theorem LayerChange.refl (keep : Byte) (s : State) : LayerChange keep s s := .of_frame rfl

theorem LayerChange.trans {keep : Byte} {s u t : State} (hu : LayerChange keep s u) (ht : LayerChange keep u t) :
    LayerChange keep s t := by
  obtain ⟨lb, slot, nslot, bits, rfl, hbits, hslot⟩ := hu
  obtain ⟨lb', slot', nslot', bits', rfl, hbits', hslot'⟩ := ht
  exact ⟨lb', slot', nslot', bits ||| bits', by rw [BitVec.or_assoc], or_and_eq_zero hbits hbits', fun h => hslot' (hslot h)⟩

theorem LayerChange.mono {keep keep' : Byte} {s t : State} (h : LayerChange keep s t) (hkeep : keep &&& keep' = keep') :
    LayerChange keep' s t := by
  obtain ⟨lb, slot, nslot, bits, ht, hbits, hslot⟩ := h
  exact ⟨lb, slot, nslot, bits, ht, by rw [← hkeep, ← BitVec.and_assoc, hbits, BitVec.zero_and], hslot⟩

/-- The end of a scan is a change of slots and `status`, if the slots lie in range and the bits outside `keep`. -/
theorem layerChange_commitScan {keep : Byte} {slots : List Slot} {bits : Byte} (s : State)
    (hbits : (bits ||| collision slots.length) &&& keep = 0#8) (hslots : ∀ t ∈ slots, -24 ≤ t.x ∧ t.x ≤ 263) :
    LayerChange keep s (commitScan slots bits s) :=
  ⟨s.lb, fillSlots slots s.slot, _, bits ||| collision slots.length, by rw [← BitVec.or_assoc]; rfl, hbits,
    fun hold => slotsInRange_fillSlots hold hslots⟩

/-- The bits that a mode-4 layer leaves in `status`: all but `SOVR` and `COLL` (R114, R115). -/
def keptBits4 : Byte := 0x9F#8

/-- The bit that a mode-2 layer leaves in `status`: bit 7 (R14). -/
def keptBits2 : Byte := 0x80#8

theorem scanBits4_and_kept (o : Option Nat) (n : Nat) : (overflow4 o ||| collision n) &&& keptBits4 = 0#8 := by
  unfold overflow4 collision
  split <;> split <;> rfl

theorem scanBits2_and_kept {o : Option Nat} (ho : ∀ i ∈ o, i < 32) (n : Nat) :
    (overflow2 o ||| collision n) &&& keptBits2 = 0#8 := by
  have hindex : ∀ i < 32, (sovr ||| BitVec.ofNat 8 i) &&& keptBits2 = 0#8 := by decide
  refine or_and_eq_zero ?_ ?_
  · cases o with
    | none => rfl
    | some i => exact hindex i (ho i rfl)
  · unfold collision
    split <;> rfl

theorem layerChange_scanM4 (line : Nat) (s : State) : LayerChange keptBits4 s (scanM4 line s) := by
  rw [scanM4_eq]
  refine layerChange_commitScan s (scanBits4_and_kept _ _) fun t ht => ?_
  obtain ⟨i, -, rfl⟩ := List.mem_map.mp ht
  obtain ⟨hlo, hhi⟩ := slot4_x_range s line i
  exact ⟨by omega, hhi⟩

theorem layerChange_scanM2 (line : Nat) (s : State) : LayerChange keptBits2 s (scanM2 line s) := by
  rw [scanM2_eq]
  refine layerChange_commitScan s (scanBits2_and_kept (fun i hi => ?_) _) fun t ht => ?_
  · have hmem : i ∈ entries2 s line := List.mem_of_getElem? hi
    exact List.mem_range.mp (List.takeWhile_subset _ (List.mem_filter.mp hmem).1)
  · obtain ⟨i, -, rfl⟩ := List.mem_map.mp ht
    exact slot2_x_range s line i

/-! ## The layers complete -/

theorem drawM4_scanM4_completes (line : Nat) (s : State) :
    ∃ t, drawM4 (scanM4 line s) = .next t ∧ LayerChange keptBits4 s t := by
  obtain ⟨t, ht, -⟩ := drawM4_draws (slotsFit4_scanM4 line s)
  exact ⟨t, ht, (layerChange_scanM4 line s).trans (.of_frame (drawM4_frame ht))⟩

/-- In the mode-2 layer the free value is never used, because the scan has just stored a colour in every slot (assumption 7). -/
theorem drawM2_scanM2_completes (line : Nat) (s : State) :
    ∃ t, drawM2 (scanM2 line s) = .next t ∧ LayerChange keptBits2 s t := by
  obtain ⟨u, hu, hframe, -⟩ := drawM2_draws (slotsFit2_scanM2 line s)
  have hfree : useFreeColours u = u := by
    have hnone : hasUncoloured u = false := by
      rw [hframe]
      exact hasUncoloured_scanM2 line s
    rw [useFreeColours, hnone]
    rfl
  rw [hfree] at hu
  exact ⟨u, hu, (layerChange_scanM2 line s).trans (.of_frame hframe)⟩

/-- The strips of a pass lie in the line buffer (R158, R221). -/
theorem passStrips_completes {pass : Nat → Nat → Nat → Nat → Nat → State → Result}
    (hpass : ∀ {row dx n col ty}, n ≤ 33 ∧ dx + 8 * n ≤ 304 → ∀ s, ∃ t, pass row dx n col ty s = .next t)
    {line : Nat} (hline : line < 240) (s : State) : ∃ t, passStrips pass line s = .next t := by
  obtain ⟨-, -, hdx, hlo, hhi, -⟩ := scrollOf_bounds s hline
  unfold passStrips
  split
  · obtain ⟨u, hu⟩ := hpass (row := (scrollOf s line).rowS) (dx := (scrollOf s line).dx) (n := (scrollOf s line).cells - 8)
      (col := (scrollOf s line).col0) (ty := (scrollOf s line).tyS) (by omega) s
    simp only [hu, andThen_next]
    exact hpass (by omega) u
  · exact hpass (by omega) s

/-- A layer that is not killed completes as its content does; a killed one changes nothing. -/
theorem unlessKilled_completes {f : State → Result} {P : State → Prop} {s : State} (hf : ∃ t, f s = .next t ∧ P t) (hs : P s)
    (killed : Bool) : ∃ t, unlessKilled killed f s = .next t ∧ P t ∧ (killed = true → t = s) := by
  cases killed with
  | false =>
    obtain ⟨t, ht, hP⟩ := hf
    exact ⟨t, ht, hP, nofun⟩
  | true => exact ⟨s, rfl, hs, fun _ => rfl⟩

/-- A layer that only changes the line buffer, killed or not. -/
theorem lbLayer_completes {f : State → Result} {s : State} (hf : ∃ t, f s = .next t)
    (hframe : ∀ {t}, f s = .next t → t = s.setLb t.lb) (killed : Bool) :
    ∃ t, unlessKilled killed f s = .next t ∧ t = s.setLb t.lb := by
  obtain ⟨t, ht, hP, -⟩ := unlessKilled_completes (P := fun t => t = s.setLb t.lb)
    (hf.imp fun t ht => ⟨ht, hframe ht⟩) rfl killed
  exact ⟨t, ht, hP⟩

/-! ## The displays complete -/

/-- What a display has done: a change of its layers, and of the line buffer alone if sprites are killed. -/
def DisplayChange (keep : Byte) (s t : State) : Prop := LayerChange keep s t ∧ (killSpr s = true → t = s.setLb t.lb)

/-- A line-buffer layer, a sprite layer and a line-buffer layer in a row. -/
theorem displayChange_of_layers {keep : Byte} {s u v t : State} (hu : u = s.setLb u.lb) (hv : LayerChange keep u v)
    (hkilled : killSpr u = true → v = u) (ht : t = v.setLb t.lb) : DisplayChange keep s t := by
  refine ⟨(LayerChange.of_frame hu).trans (hv.trans (.of_frame ht)), fun hkill => ?_⟩
  have hvu : v = u := hkilled (by rw [hu]; exact hkill)
  rw [ht, hvu, hu]
  rfl

theorem displayM4_completes {line : Nat} (hline : line < 240) (s : State) :
    ∃ t, displayM4 line s = .next t ∧ DisplayChange keptBits4 s t := by
  obtain ⟨u, hu, hframeU⟩ := lbLayer_completes (passStrips_completes lowStrip_completes hline s)
    (passStrips_frame lowStrip_frame) (killBg s)
  obtain ⟨v, hv, hchange, hkilled⟩ := unlessKilled_completes (f := fun w => drawM4 (scanM4 line w))
    (P := LayerChange keptBits4 u) (drawM4_scanM4_completes line u) (.refl _ u) (killSpr u)
  obtain ⟨t, ht, hframeT⟩ := lbLayer_completes (passStrips_completes highStrip_completes hline v)
    (passStrips_frame highStrip_frame) (killFg v)
  refine ⟨t, ?_, displayChange_of_layers hframeU hchange hkilled hframeT⟩
  rw [displayM4, hu, andThen_next, hv, andThen_next, ht]

theorem displayM2_completes (line : Nat) (s : State) :
    ∃ t, displayM2 line s = .next t ∧ DisplayChange keptBits2 s t := by
  obtain ⟨u, hu, hframeU⟩ := lbLayer_completes (background2Strip_completes line s) background2Strip_frame (killBg s)
  obtain ⟨t, ht, hchange, hkilled⟩ := unlessKilled_completes (f := fun w => drawM2 (scanM2 line w))
    (P := LayerChange keptBits2 u) (drawM2_scanM2_completes line u) (.refl _ u) (killSpr u)
  refine ⟨t, ?_, displayChange_of_layers hframeU hchange hkilled rfl⟩
  rw [displayM2, hu, andThen_next, ht]

theorem exec_lsM2Display {line : Byte} (hline : line.toNat < 240) (s : State) :
    exec (.lsM2Display line) s = displayM2 line.toNat s := if_pos hline

/-- A display's change read as the statements do. -/
theorem DisplayChange.frame {keep : Byte} {s t : State} (h : DisplayChange keep s t) :
    t = { s with lb := t.lb, slot := t.slot, nslot := t.nslot, status := t.status } ∧ SameVram s t
      ∧ (s.kill.getLsbD 1 = true → t = { s with lb := t.lb }) := by
  obtain ⟨⟨lb, slot, nslot, bits, rfl, -, -⟩, hkilled⟩ := h
  exact ⟨rfl, fun _ => rfl, hkilled⟩

/-- Settles O44: by layers, each of which completes. -/
theorem displaysComplete : Obligations.DisplaysComplete := by
  intro line s i hline hi
  obtain rfl | rfl := hi
  · obtain ⟨t, ht, hchange⟩ := displayM4_completes hline s
    exact ⟨t, (exec_lsM4Display hline s).trans ht, hchange.frame⟩
  · obtain ⟨t, ht, hchange⟩ := displayM2_completes line.toNat s
    exact ⟨t, (exec_lsM2Display hline s).trans ht, hchange.frame⟩

/-! ## LS.M2.DISPLAY as its sub-operations -/

/-- Settles O43: each layer is its operations, and the background changes no kill bit. -/
theorem legacyDisplayRunsLayersInOrder : Obligations.LegacyDisplayRunsLayersInOrder := by
  intro line s hline
  have hbackground : unlessKilled (killBg s) (background2Strip line.toNat) s
      = if s.kill.getLsbD 0 then .next s else exec (.scM2Bg line) s := by
    rw [exec_scM2Bg hline, unlessKilled, killBg]
  rw [exec_lsM2Display hline, displayM2, hbackground]
  refine andThen_congr fun u hu => ?_
  rw [← hbackground] at hu
  have hkept : ControlsKept s u := unlessKilled_controlsKept (fun h => controlsKept_of_frame (background2Strip_frame h)) hu
  rw [unlessKilled, killSpr, hkept.2, exec_ssM2Scan hline, andThen_next, exec_ssM2Draw]

end Sys2Proof.Machine
end

section
/-! PROOFS. LS.LINE_DRAW (R153, R192): when it runs, its eight steps, and that they complete (R221). -/

namespace Sys2Proof.Machine

/-! ## What the finalizer may change -/

/-- What holds of the one next state that a result answers. -/
theorem of_next_unique {r : Result} {P : State → Prop} (h : ∃ t, r = .next t ∧ P t) {t : State} (ht : r = .next t) : P t := by
  obtain ⟨t', ht', hP⟩ := h
  rw [ht'] at ht
  cases ht
  exact hP

/-- From `s` to `t` the table, `dirty`, the ghost count and row `out_row` of `OUT` may have changed, and nothing else. -/
def FinalizeChange (s t : State) : Prop :=
  ∃ lut dirty count out, t = { s with lut := lut, dirty := dirty, rebuildCount := count, out := out }
    ∧ (∀ r, r ≠ s.outRow → readRow out r = readRow s.out r) ∧ (rowsWf s.out = true → rowsWf out = true)

theorem finalizeChange_putRow {s u : State} (h : u = { s with lut := u.lut, dirty := u.dirty, rebuildCount := u.rebuildCount })
    (p : Row) : FinalizeChange s (u.putRow p) := by
  rw [h]
  exact ⟨_, _, _, _, rfl, fun r hr => readRow_putRow_of_ne s p hr, fun hwf => rowsWf_writeRow hwf _ _⟩

/-- A format other than direct colour and `NONE` hands the line over without the table. -/
theorem format_cases {f : Format} (h : f ≠ .notSelected) : f = .indexed8 ∨ f.isDirect ∨ f = .internal := by
  cases f <;> simp_all [Format.isDirect]

theorem finalize_of_notSelected {s : State} (h : s.fmt = .notSelected) : finalize s = .refused .noFormatSelected := by
  rw [finalize, h]

theorem finalize_completes {s : State} (h : s.fmt ≠ .notSelected) : ∃ t, finalize s = .next t ∧ FinalizeChange s t := by
  obtain hfmt | hdirect | hfmt := format_cases h
  · exact ⟨_, finalize_of_indexed8 hfmt, finalizeChange_putRow rfl _⟩
  · obtain ⟨u, hu, hframe⟩ := rebuildIfDirty_completes hdirect
    exact ⟨_, (finalize_of_isDirect hdirect).trans (finalizeDirect_eq_next.mpr ⟨u, hu, rfl⟩), finalizeChange_putRow hframe _⟩
  · exact ⟨s, finalize_of_internal hfmt, _, _, _, _, rfl, fun _ _ => rfl, id⟩

theorem finalizeChange_of_next {s t : State} (h : finalize s = .next t) : FinalizeChange s t := by
  refine of_next_unique (finalize_completes fun hfmt => ?_) h
  rw [finalize_of_notSelected hfmt] at h
  cases h

/-! ## When LS.LINE_DRAW runs -/

theorem exec_lsLineDraw (line : Byte) (s : State) : exec (.lsLineDraw line) s = lineDraw line.toNat s := rfl

section
variable {line : Nat} {s : State}

/-- The line, the format and the calling order are as R70, R192 and R212 ask. -/
def LineReady (line : Nat) (s : State) : Prop :=
  line < 240 ∧ line < s.lines ∧ s.fmt ≠ .notSelected ∧ s.order ≠ .noFrame

theorem lineDraw_of_ready (h : LineReady line s) :
    lineDraw line s = if 0 < s.skipCount then .next (skippedLine s) else drawnLine line s := by
  obtain ⟨hline, hlines, hfmt, horder⟩ := h
  rw [lineDraw, if_neg (not_not.mpr hline), if_neg (not_not.mpr hlines), if_neg hfmt, if_neg horder]

theorem lineDraw_of_not_ready (h : ¬ LineReady line s) : ∃ r, lineDraw line s = .refused r := by
  unfold lineDraw
  split
  · exact ⟨_, rfl⟩
  next hline =>
  split
  · exact ⟨_, rfl⟩
  next hlines =>
  split
  · exact ⟨_, rfl⟩
  next hfmt =>
  split
  · exact ⟨_, rfl⟩
  next horder => exact absurd ⟨not_not.mp hline, not_not.mp hlines, hfmt, horder⟩ h

theorem lineReady_of_next {t : State} (h : lineDraw line s = .next t) : LineReady line s := by
  by_contra hready
  obtain ⟨r, hr⟩ := lineDraw_of_not_ready hready
  rw [hr] at h
  cases h

end

/-- Settles O52: each of the three causes fails a condition of the line. -/
theorem lineDrawNeedsItsStartUp : Obligations.LineDrawNeedsItsStartUp := by
  intro line s h
  refine lineDraw_of_not_ready fun ⟨_, hlines, hfmt, horder⟩ => ?_
  obtain h | h | h := h
  · exact absurd hlines (Nat.not_lt.mpr h)
  · exact hfmt h
  · exact horder h

/-! ## The steps of a drawn line -/

theorem displayLine_of_disp {s : State} (h : disp s = true) (line : Nat) :
    displayLine line s = if mode4 s then displayM4 line s else displayM2 line s := if_pos h

theorem displayLine_of_not_disp {s : State} (h : disp s = false) (line : Nat) : displayLine line s = .next s :=
  if_neg (by simp [h])

theorem displayLine_completes {line : Nat} (hline : line < 240) (s : State) :
    ∃ t, displayLine line s = .next t ∧ LayerChange keptBits2 s t := by
  cases hdisp : disp s with
  | false => exact ⟨s, displayLine_of_not_disp hdisp line, .refl _ s⟩
  | true =>
    rw [displayLine_of_disp hdisp]
    split
    · obtain ⟨t, ht, hchange, -⟩ := displayM4_completes hline s
      exact ⟨t, ht, hchange.mono rfl⟩
    · obtain ⟨t, ht, hchange, -⟩ := displayM2_completes line s
      exact ⟨t, ht, hchange⟩

/-- The line buffer of a line before its layers: all backdrop, the hook asked (steps 2 and 3). -/
def startedLine (line : Nat) (s : State) : State := backfill (scanBegin line s)

/-- A drawn line answers a next state exactly if its display and its finalizer do, one after the other. -/
theorem drawnLine_eq_next {line : Nat} {s t : State} :
    drawnLine line s = .next t ↔ ∃ b d, displayLine line (startedLine line s) = .next b ∧ finalize (maskCol0 b) = .next d
      ∧ t = advanceRow (scanEnd line d) := by
  simp only [drawnLine, startedLine, andThen_eq_next, Host.Outcome.next.injEq, @eq_comm _ _ t]
  constructor
  · rintro ⟨b, hb, d, hd, ht⟩
    exact ⟨b, d, hb, hd, ht⟩
  · rintro ⟨b, d, hb, hd, ht⟩
    exact ⟨b, hb, d, hd, ht⟩

theorem maskCol0_frame (s : State) : maskCol0 s = s.setLb (maskCol0 s).lb := (maskCol0_writesOnlyLb s).1

/-- What a drawn line may change: the line buffer, the slots and, by OR, `status`; the table, `dirty`, the ghost count and its row
of `OUT`; the row moves on, both hooks are asked, and the calling order counts the line. -/
def LineChange (line : Nat) (s t : State) : Prop :=
  ∃ lb slot nslot bits lut dirty count out,
    t = { s with lb := lb, slot := slot, nslot := nslot, status := s.status ||| bits
                 lut := lut, dirty := dirty, rebuildCount := count, out := out
                 skipCount := if 0 < s.hookEnd then s.hookEnd else if 0 < s.hookBegin then s.hookBegin else s.skipCount
                 calls := .scanEnd line :: .scanBegin line :: s.calls, outRow := s.outRow + 1, order := s.order.lineIssued }
    ∧ bits &&& keptBits2 = 0#8 ∧ (SlotsInRange s.slot → SlotsInRange slot)
    ∧ (∀ r, r ≠ s.outRow → readRow out r = readRow s.out r) ∧ (rowsWf s.out = true → rowsWf out = true)

/-- The changes of the display and of the finalizer make up the change of a line. -/
theorem lineChange_of_steps {line : Nat} {s b d : State} (hb : LayerChange keptBits2 (startedLine line s) b)
    (hd : FinalizeChange (maskCol0 b) d) : LineChange line s (advanceRow (scanEnd line d)) := by
  obtain ⟨lut, dirty, count, out, rfl, hrows, hwf⟩ := hd
  rw [maskCol0_frame] at hrows hwf ⊢
  generalize (maskCol0 b).lb = lb at hrows hwf ⊢
  obtain ⟨lb', slot, nslot, bits, rfl, hbits, hslot⟩ := hb
  exact ⟨lb, slot, nslot, bits, lut, dirty, count, out, rfl, hbits, hslot, hrows, hwf⟩

/-- The display and the finalizer of a line complete, whatever the registers and memories hold. -/
theorem drawnLine_completes {line : Nat} {s : State} (hline : line < 240) (hfmt : s.fmt ≠ .notSelected) :
    ∃ t, drawnLine line s = .next t ∧ LineChange line s t := by
  obtain ⟨b, hb, hlayer⟩ := displayLine_completes hline (startedLine line s)
  have hfmtB : (maskCol0 b).fmt ≠ .notSelected := by
    rw [maskCol0_frame]
    obtain ⟨_, _, _, _, rfl, -⟩ := hlayer
    exact hfmt
  obtain ⟨d, hd, hfinal⟩ := finalize_completes hfmtB
  exact ⟨_, drawnLine_eq_next.mpr ⟨b, d, hb, hd, rfl⟩, lineChange_of_steps hlayer hfinal⟩

theorem lineReady_of_ready {line : Byte} {s : State} (hline : line.toNat < 240) (h : Ready (.lsLineDraw line) s) :
    LineReady line.toNat s := ⟨hline, h⟩

theorem exec_lsLineDraw_of_drawn {line : Byte} {s : State} (h : LineReady line.toNat s) (hskip : s.skipCount = 0) :
    exec (.lsLineDraw line) s = drawnLine line.toNat s := by
  rw [exec_lsLineDraw, lineDraw_of_ready h, if_neg (by omega)]

/-- A drawn line that answered went through its steps. -/
theorem drawn_steps {line : Byte} {s t : State} (hskip : s.skipCount = 0) (h : exec (.lsLineDraw line) s = .next t) :
    ∃ b d, displayLine line.toNat (startedLine line.toNat s) = .next b
      ∧ LayerChange keptBits2 (startedLine line.toNat s) b ∧ finalize (maskCol0 b) = .next d
      ∧ FinalizeChange (maskCol0 b) d ∧ t = advanceRow (scanEnd line.toNat d) := by
  have hready : LineReady line.toNat s := lineReady_of_next h
  rw [exec_lsLineDraw_of_drawn hready hskip] at h
  obtain ⟨b, d, hb, hd, ht⟩ := drawnLine_eq_next.mp h
  exact ⟨b, d, hb, of_next_unique (displayLine_completes hready.1 _) hb, hd, finalizeChange_of_next hd, ht⟩

/-- Settles O46: display and finalizer complete, and their changes leave the rest. -/
theorem drawnLineCompletes : Obligations.DrawnLineCompletes := by
  intro line s hline hready hskip
  obtain ⟨t, ht, hchange⟩ := drawnLine_completes hline hready.2.1
  refine ⟨t, (exec_lsLineDraw_of_drawn (lineReady_of_ready hline hready) hskip).trans ht, ?_⟩
  obtain ⟨lb, slot, nslot, bits, lut, dirty, count, out, rfl, -, -, hrows, -⟩ := hchange
  have hcount : (if 0 < s.hookBegin then s.hookBegin else s.skipCount) = s.hookBegin := by
    split <;> omega
  exact ⟨rfl, rfl, by rw [hcount], ⟨rfl, rfl, rfl, rfl, rfl, rfl, rfl, rfl⟩, fun _ => rfl, rfl, rfl, rfl, rfl, rfl, rfl,
    fun n hn => congrArg CallOrder.lineIssued hn, hrows⟩

/-- Settles O45: the two displays and the finalizer are their own operations, and what the later steps read of the hooks, the row
and the calling order is as the line began with. -/
theorem lineDrawRunsItsSteps : Obligations.LineDrawRunsItsSteps := by
  intro line s hline hready
  rw [exec_lsLineDraw, lineDraw_of_ready (lineReady_of_ready hline hready)]
  by_cases hskip : 0 < s.skipCount
  · rw [if_pos hskip, if_pos hskip]
    rfl
  rw [if_neg hskip, if_neg hskip]
  have hbegin : scanBegin line.toNat s = { s with calls := .scanBegin line.toNat :: s.calls, skipCount := s.hookBegin } := by
    have hcount : (if 0 < s.hookBegin then s.hookBegin else s.skipCount) = s.hookBegin := by
      split <;> omega
    rw [scanBegin, State.requestSkip, State.called, hcount]
  have hdisplay : displayLine line.toNat (startedLine line.toNat s) =
      if s.reg[1].getLsbD 6 then
        exec (if s.reg[0].getLsbD 2 then .lsM4Display line else .lsM2Display line) (startedLine line.toNat s)
      else .next (startedLine line.toNat s) := by
    rw [apply_ite (exec · (startedLine line.toNat s)), exec_lsM4Display hline, exec_lsM2Display hline]
    rfl
  rw [drawnLine, ← hbegin, exec_lsBackfill, andThen_next]
  rw [startedLine] at hdisplay
  rw [← hdisplay]
  refine andThen_congr fun b hb => ?_
  rw [exec_lsMaskCol0, andThen_next, exec_pfFinalize]
  refine andThen_congr fun d hd => congrArg _ ?_
  obtain ⟨lut, dirty, count, out, rfl, -⟩ := finalizeChange_of_next hd
  rw [maskCol0_frame]
  obtain ⟨lb, slot, nslot, bits, rfl, -⟩ := of_next_unique (displayLine_completes hline _) hb
  rw [hbegin]
  rfl

end Sys2Proof.Machine
end

section
/-! PROOFS. What a drawn line leaves in the line buffer (R62, R156, R161), in its output row and in the table (R177). -/

namespace Sys2Proof.Machine

/-! ## Bytes that are indices -/

/-- A palette bit with a 4-bit colour (R62). -/
def IsIndex (v : Byte) : Prop := v.toNat < 0x20

/-- Every byte of the line buffer is an index. -/
def LbIndices (s : State) : Prop := ∀ i, (h : i < 304) → IsIndex s.lb[i]

theorem isIndex_or {pal : Byte} (hpal : pal = 0x00#8 ∨ pal = 0x10#8) (v : Nibble) : IsIndex (pal ||| v.setWidth 8) := by
  have hall : ∀ v : Nibble, (0x00#8 ||| v.setWidth 8).toNat < 0x20 ∧ (0x10#8 ||| v.setWidth 8).toNat < 0x20 := by decide
  obtain rfl | rfl := hpal
  · exact (hall v).1
  · exact (hall v).2

theorem tilePal_cases (code : Half) : tilePal code = 0x00#8 ∨ tilePal code = 0x10#8 := by
  rw [tilePal_eq]
  split
  · exact .inr rfl
  · exact .inl rfl

theorem isIndex_setWidth (v : Nibble) : IsIndex (v.setWidth 8) := by
  simpa using isIndex_or (.inl rfl) v

/-- A draw whose pixels are indices leaves indices. -/
theorem tdDraw_lbIndices {sx : Int} {w : Nat} {px : Nat → Option Byte} (hpx : ∀ x v, px x = some v → IsIndex v) {s t : State}
    (h : tdDraw sx w px s = .next t) (hs : LbIndices s) : LbIndices t := by
  obtain ⟨hrange, rfl⟩ := tdDraw_eq_next.mp h
  intro i hi
  rw [setLb_lb, drawPixels_getElem]
  split
  · cases hp : px (i - sx.toNat) with
    | none => exact hs i hi
    | some v => exact hpx _ v hp
  · exact hs i hi

theorem overlay4_isIndex {pal : Byte} (hpal : pal = 0x00#8 ∨ pal = 0x10#8) {u : Nibble} {v : Byte}
    (h : overlay4 pal u = some v) : IsIndex v := by
  rw [overlay4_eq] at h
  split at h
  · cases h
  · cases h
    exact isIndex_or hpal u

theorem sprite2_isIndex {pal : Byte} {bit : Bool} {v : Byte} (h : sprite2 pal bit = some v) : IsIndex v := by
  rw [sprite2_eq, ← setWidth_lowNibble] at h
  split at h
  · cases h
    exact isIndex_setWidth _
  · cases h

theorem background2_isIndex {pal : Byte} {bit : Bool} {v : Byte} (h : background2 pal bit = some v) : IsIndex v := by
  cases h
  exact isIndex_setWidth _

/-! ## Every layer leaves indices -/

theorem lowColumn_lbIndices {row dx col ty k : Nat} {s t : State} (h : lowColumn row dx col ty k s = .next t)
    (hs : LbIndices s) : LbIndices t := by
  by_cases hprio : tilePrio (columnCode s row col k) = true
  · rw [lowColumn_of_prio hprio] at h
    cases h
    exact hs
  · rw [lowColumn_of_not_prio hprio] at h
    refine tdDraw_lbIndices (fun x v hv => ?_) h hs
    rw [lowPixel, if_neg hprio] at hv
    cases hv
    exact isIndex_or (tilePal_cases _) _

theorem highColumn_lbIndices {row dx col ty k : Nat} {s t : State} (h : highColumn row dx col ty k s = .next t)
    (hs : LbIndices s) : LbIndices t := by
  by_cases hprio : tilePrio (columnCode s row col k) = true
  · by_cases hblank : vread32 s (tileAddr (columnCode s row col k) ty) = 0#32
    · rw [highColumn_of_blank hprio hblank] at h
      cases h
      exact hs
    · rw [highColumn_of_prio hprio hblank] at h
      refine tdDraw_lbIndices (fun x v hv => ?_) h hs
      rw [highPixel_of_prio hprio] at hv
      exact overlay4_isIndex (tilePal_cases _) hv
  · rw [highColumn_of_not_prio hprio] at h
    cases h
    exact hs

theorem strip_lbIndices {column : Nat → State → Result} {dx n : Nat}
    (hcolumn : ∀ {k s t}, column k s = .next t → LbIndices s → LbIndices t) {s t : State}
    (h : strip column dx n s = .next t) (hs : LbIndices s) : LbIndices t :=
  forEach_keeps (fun _ _ _ _ => hcolumn) (strip_eq_next.mp h).2 hs

theorem passStrips_lbIndices {pass : Nat → Nat → Nat → Nat → Nat → State → Result}
    (hpass : ∀ {row dx n col ty s t}, pass row dx n col ty s = .next t → LbIndices s → LbIndices t) {line : Nat} {s t : State}
    (h : passStrips pass line s = .next t) (hs : LbIndices s) : LbIndices t := by
  unfold passStrips at h
  split at h
  · obtain ⟨u, hu, ht⟩ := andThen_eq_next.mp h
    exact hpass ht (hpass hu hs)
  · exact hpass h hs

theorem background2Strip_lbIndices {line : Nat} {s t : State} (h : background2Strip line s = .next t) (hs : LbIndices s) :
    LbIndices t := by
  refine forEach_keeps (l := List.range 32) (f := backgroundColumn2 line) (fun k _ u v hv hu => ?_) h hs
  rw [backgroundColumn2_eq] at hv
  exact tdDraw_lbIndices (fun x v hv => background2_isIndex hv) hv hu

theorem drawM4_lbIndices {s t : State} (h : drawM4 s = .next t) (hs : LbIndices s) : LbIndices t := by
  refine forEach_keeps (fun k _ u v hv hu => ?_) h hs
  rw [drawSlot4_eq] at hv
  exact tdDraw_lbIndices (fun x v hv => overlay4_isIndex (.inr rfl) hv) hv hu

theorem drawHalf2_lbIndices {x : Int} {pack pal : Byte} {s t : State} (h : drawHalf2 x pack pal s = .next t)
    (hs : LbIndices s) : LbIndices t := by
  by_cases hx : 0 < x
  · rw [drawHalf2_of_pos hx] at h
    exact tdDraw_lbIndices (fun x v hv => sprite2_isIndex hv) h hs
  · rw [drawHalf2, if_neg hx] at h
    cases h
    exact hs

theorem drawSlot2_lbIndices {k : Nat} {s t : State} (h : drawSlot2 k s = .next t) (hs : LbIndices s) : LbIndices t := by
  obtain ⟨u, hu, ht⟩ := andThen_eq_next.mp h
  have hus := drawHalf2_lbIndices hu hs
  split at ht
  · exact drawHalf2_lbIndices ht hus
  · cases ht
    exact hus

theorem drawM2_lbIndices {s t : State} (h : drawM2 s = .next t) (hs : LbIndices s) : LbIndices t := by
  obtain ⟨u, hu, ht⟩ := andThen_eq_next.mp h
  cases ht
  have hslots : LbIndices u := forEach_keeps (fun k _ _ _ hk => drawSlot2_lbIndices hk) hu hs
  exact hslots

theorem unlessKilled_lbIndices {f : State → Result} {killed : Bool} {s t : State}
    (hf : f s = .next t → LbIndices s → LbIndices t) (h : unlessKilled killed f s = .next t) (hs : LbIndices s) :
    LbIndices t := by
  cases killed with
  | false => exact hf h hs
  | true =>
    cases h
    exact hs

theorem displayM4_lbIndices {line : Nat} {s t : State} (h : displayM4 line s = .next t) (hs : LbIndices s) : LbIndices t := by
  obtain ⟨u, hu, h⟩ := andThen_eq_next.mp h
  obtain ⟨v, hv, ht⟩ := andThen_eq_next.mp h
  have hus := unlessKilled_lbIndices (passStrips_lbIndices (strip_lbIndices lowColumn_lbIndices)) hu hs
  have hvs := unlessKilled_lbIndices (f := fun w => drawM4 (scanM4 line w)) (fun h hu => drawM4_lbIndices h hu) hv hus
  exact unlessKilled_lbIndices (passStrips_lbIndices (strip_lbIndices highColumn_lbIndices)) ht hvs

theorem displayM2_lbIndices {line : Nat} {s t : State} (h : displayM2 line s = .next t) (hs : LbIndices s) : LbIndices t := by
  obtain ⟨u, hu, ht⟩ := andThen_eq_next.mp h
  have hus := unlessKilled_lbIndices background2Strip_lbIndices hu hs
  exact unlessKilled_lbIndices (f := fun w => drawM2 (scanM2 line w)) (fun h hu => drawM2_lbIndices h hu) ht hus

theorem displayLine_lbIndices {line : Nat} {s t : State} (h : displayLine line s = .next t) (hs : LbIndices s) :
    LbIndices t := by
  cases hdisp : disp s with
  | false =>
    rw [displayLine_of_not_disp hdisp] at h
    cases h
    exact hs
  | true =>
    rw [displayLine_of_disp hdisp] at h
    split at h
    · exact displayM4_lbIndices h hs
    · exact displayM2_lbIndices h hs

theorem backdrop_isIndex (s : State) : IsIndex (backdrop s) := by
  have hlow : s.reg[7] &&& 0x0F#8 = (s.reg[7].extractLsb' 0 4).setWidth 8 := (setWidth_lowNibble _).symm
  rw [backdrop, hlow, BitVec.or_comm]
  refine isIndex_or ?_ _
  split
  · exact .inr rfl
  · exact .inl rfl

theorem startedLine_getElem (line : Nat) (s : State) {i : Nat} (hi : i < 304) : (startedLine line s).lb[i] = backdrop s :=
  Vector.getElem_replicate hi

theorem startedLine_lbIndices (line : Nat) (s : State) : LbIndices (startedLine line s) := by
  intro i hi
  rw [startedLine_getElem]
  exact backdrop_isIndex s

/-! ## The line buffer of a drawn line -/

theorem FinalizeChange.lb_eq {s t : State} (h : FinalizeChange s t) : t.lb = s.lb := by
  obtain ⟨_, _, _, _, rfl, -⟩ := h
  rfl

theorem FinalizeChange.sprites_eq {s t : State} (h : FinalizeChange s t) :
    t.status = s.status ∧ t.slot = s.slot ∧ t.nslot = s.nslot := by
  obtain ⟨_, _, _, _, rfl, -⟩ := h
  exact ⟨rfl, rfl, rfl⟩

/-- After the display the column mask is laid over the leftmost eight bytes. -/
theorem maskCol0_getElem (s : State) {i : Nat} (hi : i < 304) :
    (maskCol0 s).lb[i] = if mask0 s = true ∧ 8 ≤ i ∧ i ≤ 15 then 0xE0#8 else s.lb[i] := by
  rw [(maskCol0_writesOnlyLb s).2.2 i hi]
  exact apply_ite (Option.getD · s.lb[i]) _ _ _

/-- The line buffer of a drawn line is what its display left, with the column mask. -/
theorem drawn_lb {line : Byte} {s t : State} (hskip : s.skipCount = 0) (h : exec (.lsLineDraw line) s = .next t) :
    ∃ b, displayLine line.toNat (startedLine line.toNat s) = .next b ∧ LayerChange keptBits2 (startedLine line.toNat s) b
      ∧ ∀ i, (hi : i < 304) → t.lb[i] = if mask0 s = true ∧ 8 ≤ i ∧ i ≤ 15 then 0xE0#8 else b.lb[i] := by
  obtain ⟨b, d, hb, hlayer, -, hfinal, rfl⟩ := drawn_steps hskip h
  refine ⟨b, hb, hlayer, fun i hi => ?_⟩
  have hmask : mask0 b = mask0 s := by
    obtain ⟨_, _, _, _, rfl, -⟩ := hlayer
    rfl
  rw [← hmask, ← maskCol0_getElem b hi]
  simp only [advanceRow_lb, scanEnd_lb, hfinal.lb_eq]

/-- Settles O47: every layer writes indices, and the mask its own byte. -/
theorem drawnLineBytesAreIndices : Obligations.DrawnLineBytesAreIndices := by
  intro line s t hskip h i hi
  obtain ⟨b, hb, -, hlb⟩ := drawn_lb hskip h
  rw [hlb i hi]
  split
  · exact .inr rfl
  · exact .inl (displayLine_lbIndices hb (startedLine_lbIndices _ s) i hi)

/-- Settles O48: the mask is laid on after the display. -/
theorem drawnLineIsMasked : Obligations.DrawnLineIsMasked := by
  intro line s t hskip hmask h i hlo hhi
  obtain ⟨b, -, -, hlb⟩ := drawn_lb hskip h
  rw [hlb i (by omega)]
  exact if_pos ⟨hmask, hlo, by omega⟩

theorem displayLine_startedLine_of_not_disp {line : Nat} {s b : State} (hdisp : disp s = false)
    (h : displayLine line (startedLine line s) = .next b) : b = startedLine line s := by
  have hreg : (startedLine line s).reg = s.reg := rfl
  have hblank : disp (startedLine line s) = false := by rw [disp, hreg, ← hdisp, disp]
  rw [displayLine_of_not_disp hblank] at h
  exact (Host.Outcome.next.inj h).symm

/-- With the display off the layers of a line are left out, and its `status` and slots stay. -/
theorem drawn_of_not_disp {line : Byte} {s t : State} (hskip : s.skipCount = 0) (hdisp : disp s = false)
    (h : exec (.lsLineDraw line) s = .next t) : t.status = s.status ∧ t.slot = s.slot ∧ t.nslot = s.nslot := by
  obtain ⟨b, d, hb, -, -, hfinal, rfl⟩ := drawn_steps hskip h
  obtain ⟨hstatus, hslot, hnslot⟩ := hfinal.sprites_eq
  rw [maskCol0_frame, displayLine_startedLine_of_not_disp hdisp hb] at hstatus hslot hnslot
  exact ⟨hstatus, hslot, hnslot⟩

/-- Settles O49: with the display off the display step answers the backdrop it was given. -/
theorem blankedLineIsBackdrop : Obligations.BlankedLineIsBackdrop := by
  intro line s hline hready hskip hdisp
  obtain ⟨t, ht, -⟩ := drawnLine_completes hline hready.2.1
  have hexec := (exec_lsLineDraw_of_drawn (lineReady_of_ready hline hready) hskip).trans ht
  obtain ⟨hstatus, hslot, hnslot⟩ := drawn_of_not_disp hskip hdisp hexec
  refine ⟨t, hexec, hstatus, hslot, hnslot, fun i hi => ?_⟩
  obtain ⟨b, hb, -, hlb⟩ := drawn_lb hskip hexec
  rw [hlb i hi, displayLine_startedLine_of_not_disp hdisp hb, startedLine_getElem]
  rfl

/-! ## The row and the table of a drawn line -/

/-- The format a line is finalized in is the one it began with, and so are the row, the table and `OUT`. -/
theorem maskCol0_kept_of_layer {line : Nat} {s b : State} (h : LayerChange keptBits2 (startedLine line s) b) :
    (maskCol0 b).fmt = s.fmt ∧ (maskCol0 b).outRow = s.outRow ∧ (maskCol0 b).out = s.out ∧ (maskCol0 b).dirty = s.dirty
      ∧ (maskCol0 b).rebuildCount = s.rebuildCount ∧ (maskCol0 b).lut = s.lut := by
  rw [maskCol0_frame]
  obtain ⟨_, _, _, _, rfl, -⟩ := h
  exact ⟨rfl, rfl, rfl, rfl, rfl, rfl⟩

/-- Settles O50: the row is written by the finalizer, after which neither the line buffer nor the table changes. -/
theorem drawnLineLandsInItsRow : Obligations.DrawnLineLandsInItsRow := by
  intro line s t hskip h
  obtain ⟨b, d, -, hlayer, hd, -, rfl⟩ := drawn_steps hskip h
  obtain ⟨hfmt, hrow, hout, -⟩ := maskCol0_kept_of_layer hlayer
  generalize maskCol0 b = m at hd hfmt hrow hout
  simp only [advanceRow_out, scanEnd_out, advanceRow_lb, scanEnd_lb, advanceRow_lut, scanEnd_lut, ← hfmt, ← hrow, ← hout]
  refine ⟨fun h8 => ?_, fun hdirect => ?_, fun hint => ?_⟩
  · rw [finalize_of_indexed8 h8] at hd
    cases hd
    refine ⟨_, readRow_putRow_self m _, fun x hx => ?_⟩
    rw [tabulate_getElem, visible_eq m hx]
    rfl
  · rw [finalize_of_isDirect hdirect] at hd
    obtain ⟨u, hu, rfl⟩ := finalizeDirect_eq_next.mp hd
    have hframe := of_next_unique (rebuildIfDirty_completes hdirect) hu
    have hrowU : u.outRow = m.outRow := by rw [hframe]
    rw [← hrowU]
    refine ⟨_, readRow_putRow_self u _, fun x hx => ?_⟩
    simp only [tabulate_getElem, visible_eq u hx, putRow_lb, putRow_lut]
  · rw [finalize_of_internal hint] at hd
    cases hd
    rfl

theorem rebuildIfDirty_of_dirty {s : State} (h : s.dirty = true) : rebuildIfDirty s = rebuild s := if_pos h

theorem rebuildIfDirty_of_clean {s : State} (h : s.dirty = false) : rebuildIfDirty s = .next s := if_neg (by simp [h])

/-- After the lazy rebuild the table is clean, and it was rebuilt if and only if it was dirty. -/
theorem rebuildIfDirty_counts {s u : State} (h : rebuildIfDirty s = .next u) :
    u.dirty = false ∧ u.rebuildCount = s.rebuildCount + (if s.dirty then 1 else 0) ∧ (s.dirty = false → u.lut = s.lut) := by
  cases hdirty : s.dirty with
  | true =>
    rw [rebuildIfDirty_of_dirty hdirty] at h
    obtain ⟨pixel, -, rfl⟩ := rebuild_eq_next.mp h
    exact ⟨rfl, rfl, nofun⟩
  | false =>
    rw [rebuildIfDirty_of_clean hdirty] at h
    cases h
    exact ⟨hdirty, rfl, fun _ => rfl⟩

/-- Settles O51: the one rebuild of a line is the finalizer's. -/
theorem drawnLineRebuildsAtMostOnce : Obligations.DrawnLineRebuildsAtMostOnce := by
  intro line s t hskip h
  have hselected : s.fmt ≠ .notSelected := (lineReady_of_next h).2.2.1
  obtain ⟨b, d, -, hlayer, hd, -, rfl⟩ := drawn_steps hskip h
  obtain ⟨hfmt, -, -, hdirty, hcount, hlut⟩ := maskCol0_kept_of_layer hlayer
  generalize maskCol0 b = m at hd hfmt hdirty hcount hlut
  simp only [advanceRow_dirty, scanEnd_dirty, advanceRow_rebuildCount, scanEnd_rebuildCount, advanceRow_lut, scanEnd_lut,
    ← hfmt, ← hdirty, ← hcount, ← hlut]
  rw [← hfmt] at hselected
  refine ⟨fun hdirect => ?_, fun hdirect => ?_⟩
  · rw [finalize_of_isDirect hdirect] at hd
    obtain ⟨u, hu, rfl⟩ := finalizeDirect_eq_next.mp hd
    have hcounts := rebuildIfDirty_counts hu
    exact hcounts
  · obtain h8 | hdirect' | hint := format_cases hselected
    · rw [finalize_of_indexed8 h8] at hd
      cases hd
      exact ⟨rfl, rfl, rfl⟩
    · exact absurd hdirect' hdirect
    · rw [finalize_of_internal hint] at hd
      cases hd
      exact ⟨rfl, rfl, rfl⟩

end Sys2Proof.Machine
end

section
/-! PROOFS. What an operation that answers a next state has done, said once for all 24 (R10, R165, R197), and what follows: what
no operation touches, how `status` is written (R14), and which operations write which item of working state. -/

namespace Sys2Proof.Machine

/-- Operations that write bytes of the line buffer and do nothing else. -/
def onlyDraws : Instr → Bool
  | .tdM4Norm _ _ _ => true
  | .tdM4Flip _ _ _ => true
  | .tdM4NormBg _ _ _ => true
  | .tdM4FlipBg _ _ _ => true
  | .tdM4Dbl _ _ _ => true
  | .tdM2Spr _ _ _ => true
  | .tdM2Bg _ _ _ => true
  | .tdM2SprDbl _ _ _ => true
  | .ssM4Draw => true
  | .scM4Low _ _ _ _ _ => true
  | .scM4High _ _ _ _ _ => true
  | .scM2Bg _ => true
  | .lsBackfill => true
  | .lsMaskCol0 => true
  | _ => false

/-- What an operation that takes `s` to `t` has done. -/
inductive Effect : Instr → State → State → Prop where
  | draw {i : Instr} {s : State} (lb : LineBuffer) (hi : onlyDraws i = true) : Effect i s (s.setLb lb)
  | drawM2 {s : State} (lb : LineBuffer) : Effect .ssM2Draw s (useFreeColours (s.setLb lb))
  | scanM4 {line : Byte} {s : State} : Effect (.ssM4Scan line) s (scanM4 line.toNat s)
  | scanM2 {line : Byte} {s : State} : Effect (.ssM2Scan line) s (scanM2 line.toNat s)
  | frameStart {s : State} : Effect .lsFrameStart s (frameStart s)
  | displayM4 {line : Byte} {s t : State} (h : LayerChange keptBits4 s t) : Effect (.lsM4Display line) s t
  | displayM2 {line : Byte} {s t : State} (h : LayerChange keptBits2 s t) : Effect (.lsM2Display line) s t
  | skipLine {line : Byte} {s : State} (hready : LineReady line.toNat s) : Effect (.lsLineDraw line) s (skippedLine s)
  | drawLine {line : Byte} {s t : State} (hready : LineReady line.toNat s) (h : LineChange line.toNat s t) :
      Effect (.lsLineDraw line) s t
  | select {code : Byte} {s : State} (f : Format) (hmid : midFrame s = false) :
      Effect (.pfSelect code) s { s with fmt := f, modeChanged := true, order := .noFrame }
  | rebuild {s : State} (lut : Vector Half 256) :
      Effect .pfRebuild s { s with lut := lut, dirty := false, rebuildCount := s.rebuildCount + 1 }
  | finalize {s t : State} (h : FinalizeChange s t) : Effect .pfFinalize s t

theorem Effect.of_frame {i : Instr} (hi : onlyDraws i = true) {s t : State} (h : t = s.setLb t.lb) : Effect i s t := by
  rw [h]
  exact .draw t.lb hi

/-- An operation bounded to lines below 240 that answered ran within the bound. -/
theorem bounded_eq_next {c : Prop} [Decidable c] {r : Result} {e : Refusal} {t : State}
    (h : (if c then r else .refused e) = .next t) : c ∧ r = .next t := by
  split at h
  next hc => exact ⟨hc, h⟩
  · cases h

theorem lineDraw_effect {line : Byte} {s t : State} (h : lineDraw line.toNat s = .next t) : Effect (.lsLineDraw line) s t := by
  have hready := lineReady_of_next h
  rw [lineDraw_of_ready hready] at h
  split at h
  · cases h
    exact .skipLine hready
  · exact .drawLine hready (of_next_unique (drawnLine_completes hready.1 hready.2.2.1) h)

theorem select_effect {code : Byte} {s t : State} (h : select code.toNat s = .next t) : Effect (.pfSelect code) s t := by
  cases hf : formatOf code.toNat with
  | none =>
    rw [select_of_reserved (formatOf_eq_none_iff.mp hf)] at h
    cases h
  | some f =>
    cases hmid : midFrame s with
    | true =>
      rw [select_of_midFrame hf hmid] at h
      cases h
    | false =>
      rw [select_of_not_midFrame hf hmid] at h
      cases h
      exact .select f hmid

/-- Every operation that answers has its effect. -/
theorem exec_effect {i : Instr} {s t : State} (h : exec i s = .next t) : Effect i s t := by
  cases i with
  | tdM4Norm | tdM4Flip | tdM4NormBg | tdM4FlipBg | tdM4Dbl | tdM2Spr | tdM2Bg | tdM2SprDbl =>
    simp only [exec_tdM4Norm, exec_tdM4Flip, exec_tdM4NormBg, exec_tdM4FlipBg, exec_tdM4Dbl, exec_tdM2Spr, exec_tdM2Bg,
      exec_tdM2SprDbl] at h
    exact .of_frame rfl (tdDraw_frame h)
  | ssM4Draw => exact .of_frame rfl (drawM4_frame h)
  | scM4Low => exact .of_frame rfl (lowStrip_frame h)
  | scM4High => exact .of_frame rfl (highStrip_frame h)
  | scM2Bg => exact .of_frame rfl (background2Strip_frame (bounded_eq_next h).2)
  | lsBackfill =>
    cases h
    exact .of_frame rfl rfl
  | lsMaskCol0 =>
    cases h
    exact .of_frame rfl (maskCol0_frame s)
  | ssM2Draw =>
    rw [drawM2_frame h]
    exact .drawM2 t.lb
  | ssM4Scan =>
    obtain ⟨-, h⟩ := bounded_eq_next h
    cases h
    exact .scanM4
  | ssM2Scan =>
    obtain ⟨-, h⟩ := bounded_eq_next h
    cases h
    exact .scanM2
  | lsFrameStart =>
    cases h
    exact .frameStart
  | lsM4Display =>
    obtain ⟨hline, h⟩ := bounded_eq_next h
    exact .displayM4 (of_next_unique (displayM4_completes hline s) h).1
  | lsM2Display line =>
    obtain ⟨-, h⟩ := bounded_eq_next h
    exact .displayM2 (of_next_unique (displayM2_completes line.toNat s) h).1
  | lsLineDraw => exact lineDraw_effect h
  | pfSelect => exact select_effect h
  | pfRebuild =>
    obtain ⟨pixel, -, rfl⟩ := rebuild_eq_next.mp h
    exact .rebuild _
  | pfFinalize => exact .finalize (finalizeChange_of_next h)

/-! ## What no operation writes -/

theorem Effect.hostStateKept {i : Instr} {s t : State} (h : Effect i s t) : HostStateKept s t := by
  cases h with
  | draw | drawM2 | scanM4 | scanM2 | skipLine | select | rebuild => exact ⟨rfl, rfl, rfl, rfl, rfl, rfl, rfl, rfl⟩
  | frameStart =>
    rw [frameStart_eq]
    exact ⟨rfl, rfl, rfl, rfl, rfl, rfl, rfl, rfl⟩
  | displayM4 h | displayM2 h =>
    obtain ⟨_, _, _, _, rfl, -⟩ := h
    exact ⟨rfl, rfl, rfl, rfl, rfl, rfl, rfl, rfl⟩
  | drawLine _ h =>
    obtain ⟨_, _, _, _, _, _, _, _, rfl, -⟩ := h
    exact ⟨rfl, rfl, rfl, rfl, rfl, rfl, rfl, rfl⟩
  | finalize h =>
    obtain ⟨_, _, _, _, rfl, -⟩ := h
    exact ⟨rfl, rfl, rfl, rfl, rfl, rfl, rfl, rfl⟩

/-- Settles O14: no effect writes what the host owns, and reads of VRAM depend on VRAM alone. -/
theorem operationsKeepHostState : Obligations.OperationsKeepHostState := by
  intro i s t h
  have hkept := (exec_effect h).hostStateKept
  obtain ⟨-, hvram, -⟩ := id hkept
  exact ⟨hkept, fun a => by rw [vread8, hvram, vread8]⟩

/-! ## How `status` is written -/

/-- `t`'s `status` is `s`'s with bits ORed in: never bit 7, none if no sprites were scanned, none of the index field by a mode-4
operation. -/
def StatusOred (i : Instr) (s t : State) : Prop :=
  ∃ bits, t.status = s.status ||| bits ∧ bits &&& keptBits2 = 0#8 ∧ (scansSprites i = false → bits = 0#8)
    ∧ ∀ line, i = .ssM4Scan line ∨ i = .lsM4Display line → bits &&& 0x1F#8 = 0#8

theorem statusOred_of_eq {i : Instr} {s t : State} (h : t.status = s.status) : StatusOred i s t :=
  ⟨0#8, by rw [h, BitVec.or_zero], rfl, fun _ => rfl, fun _ _ => rfl⟩

theorem statusOred_of_layer4 {i : Instr} (hi : scansSprites i = true) {s t : State} (h : LayerChange keptBits4 s t) :
    StatusOred i s t := by
  obtain ⟨_, _, _, bits, rfl, hbits, -⟩ := h
  have hpart : ∀ m, keptBits4 &&& m = m → bits &&& m = 0#8 := fun m hm => by
    rw [← hm, ← BitVec.and_assoc, hbits, BitVec.zero_and]
  exact ⟨bits, rfl, hpart _ rfl, fun hno => absurd hi (by simp [hno]), fun _ _ => hpart _ rfl⟩

theorem statusOred_of_layer2 {i : Instr} (hi : scansSprites i = true) (hi4 : ∀ line, i ≠ .ssM4Scan line ∧ i ≠ .lsM4Display line)
    {s t : State} (h : LayerChange keptBits2 s t) : StatusOred i s t := by
  obtain ⟨_, _, _, bits, rfl, hbits, -⟩ := h
  exact ⟨bits, rfl, hbits, fun hno => absurd hi (by simp [hno]), fun line hline => absurd hline (not_or.mpr (hi4 line))⟩

theorem Effect.statusOred {i : Instr} {s t : State} (h : Effect i s t) : StatusOred i s t := by
  cases h with
  | draw | drawM2 | skipLine | select | rebuild => exact statusOred_of_eq rfl
  | frameStart => exact statusOred_of_eq (by rw [frameStart_eq])
  | scanM4 => exact statusOred_of_layer4 rfl (layerChange_scanM4 _ s)
  | @scanM2 line => exact statusOred_of_layer2 (i := .ssM2Scan line) rfl (fun _ => ⟨nofun, nofun⟩) (layerChange_scanM2 _ s)
  | displayM4 h => exact statusOred_of_layer4 rfl h
  | @displayM2 line _ _ h => exact statusOred_of_layer2 (i := .lsM2Display line) rfl (fun _ => ⟨nofun, nofun⟩) h
  | drawLine _ h =>
    obtain ⟨_, _, _, bits, _, _, _, _, rfl, hbits, -⟩ := h
    exact ⟨bits, rfl, hbits, nofun, fun _ => nofun⟩
  | finalize h => exact statusOred_of_eq h.sprites_eq.1

theorem getLsbD_seven_of_and {bits : Byte} (h : bits &&& keptBits2 = 0#8) : bits.getLsbD 7 = false := by
  have hbit := congrArg (BitVec.getLsbD · 7) h
  simpa [keptBits2, BitVec.getLsbD_and] using hbit

/-- Settles O15: the bits that are ORed in. -/
theorem statusIsOnlyOred : Obligations.StatusIsOnlyOred := by
  intro i s t h
  obtain ⟨bits, ht, hseven, hnone, hindex⟩ := (exec_effect h).statusOred
  refine ⟨?_, ?_, fun hi => ?_, fun line hline => ?_⟩
  · rw [ht, ← BitVec.or_assoc, BitVec.or_self]
  · rw [ht, BitVec.getLsbD_or, getLsbD_seven_of_and hseven, Bool.or_false]
  · rw [ht, hnone hi, BitVec.or_zero]
  · rw [ht, BitVec.and_comm, BitVec.and_or_distrib_left, BitVec.and_comm _ bits, hindex line hline, BitVec.or_zero,
      BitVec.and_comm]

/-! ## Who writes the working state -/

theorem drawsPixels_of_onlyDraws {i : Instr} (h : onlyDraws i = true) : drawsPixels i = true := by
  cases i with
  | ssM4Scan | ssM2Scan | lsFrameStart | pfSelect | pfRebuild | pfFinalize => cases h
  | _ => rfl

/-- Settles O18: effect by effect; an item that an effect changes is one that its operation owns. -/
theorem workingStateHasItsWriters : Obligations.WorkingStateHasItsWriters := by
  intro i s t h
  cases exec_effect h with
  | draw lb hi => simp [drawsPixels_of_onlyDraws hi]
  | drawM2 => simp [drawsPixels]
  | scanM4 | scanM2 => simp [scanM4, scanM2, scansSprites]
  | frameStart => simp [frameStart_eq]
  | displayM4 h | displayM2 h =>
    obtain ⟨_, _, _, _, rfl, -⟩ := h
    simp [drawsPixels, scansSprites]
  | skipLine => simp [drawsPixels, writesOut, rebuildsLut, scansSprites]
  | drawLine _ h =>
    obtain ⟨_, _, _, _, _, _, _, _, rfl, -, -, hrows, -⟩ := h
    simpa [drawsPixels, writesOut, rebuildsLut, scansSprites] using hrows
  | select => simp
  | rebuild => simp [rebuildsLut]
  | finalize h =>
    obtain ⟨_, _, _, _, rfl, hrows, -⟩ := h
    simpa [writesOut, rebuildsLut] using hrows

end Sys2Proof.Machine
end

section
/-! PROOFS. The calling order (R170, R212, R215): the format in mid-frame, and the invariant that every step keeps. -/

namespace Sys2Proof.Machine

/-! ## The calling order -/

/-- Of the operations only LS.FRAME_START and PF.SELECT do more to the sequencing state than count a line. -/
theorem Effect.sequencing {i : Instr} {s t : State} (h : Effect i s t) (hframe : i ≠ .lsFrameStart)
    (hselect : ∀ c, i ≠ .pfSelect c) :
    t.fmt = s.fmt ∧ t.lines = s.lines ∧ t.params = s.params
      ∧ t.order = if drawsLine i then s.order.lineIssued else s.order := by
  cases h with
  | @draw i _ _ hi =>
    have hline : drawsLine i = false := by
      cases i with
      | lsLineDraw => cases hi
      | _ => rfl
    exact ⟨rfl, rfl, rfl, by rw [hline]; rfl⟩
  | drawM2 | scanM4 | scanM2 | rebuild | skipLine => exact ⟨rfl, rfl, rfl, rfl⟩
  | frameStart => exact absurd rfl hframe
  | @select code => exact absurd rfl (hselect code)
  | displayM4 h | displayM2 h =>
    obtain ⟨_, _, _, _, rfl, -⟩ := h
    exact ⟨rfl, rfl, rfl, rfl⟩
  | drawLine _ h =>
    obtain ⟨_, _, _, _, _, _, _, _, rfl, -⟩ := h
    exact ⟨rfl, rfl, rfl, rfl⟩
  | finalize h =>
    obtain ⟨_, _, _, _, rfl, -⟩ := h
    exact ⟨rfl, rfl, rfl, rfl⟩

theorem Effect.of_select {code : Byte} {s t : State} (h : Effect (.pfSelect code) s t) :
    midFrame s = false ∧ t.order = .noFrame := by
  cases h with
  | draw _ hi => cases hi
  | select f hmid => exact ⟨hmid, rfl⟩

/-- An operation is a PF.SELECT or none. -/
theorem select_or_not (i : Instr) : (∃ code, i = .pfSelect code) ∨ ∀ code, i ≠ .pfSelect code := by
  cases i with
  | pfSelect code => exact .inl ⟨code, rfl⟩
  | _ => exact .inr nofun

/-- Without an LS.FRAME_START a frame that has not started stays so. -/
theorem Effect.noFrame {i : Instr} {s t : State} (h : Effect i s t) (hframe : i ≠ .lsFrameStart) (hs : s.order = .noFrame) :
    t.order = .noFrame := by
  obtain ⟨code, rfl⟩ | hselect := select_or_not i
  · exact h.of_select.2
  · obtain ⟨-, -, -, horder⟩ := h.sequencing hframe hselect
    rw [horder, hs]
    exact ite_self _

/-- Without an LS.FRAME_START an operation keeps the format or ends the frame. -/
theorem Effect.fmt_eq {i : Instr} {s t : State} (h : Effect i s t) (hframe : i ≠ .lsFrameStart) (ht : t.order ≠ .noFrame) :
    t.fmt = s.fmt := by
  obtain ⟨code, rfl⟩ | hselect := select_or_not i
  · exact absurd h.of_select.2 ht
  · exact (h.sequencing hframe hselect).1

theorem forEach_noFrame {ops : List Instr} {s u : State} (hops : ∀ i ∈ ops, i ≠ .lsFrameStart)
    (h : forEach exec ops s = .next u) (hs : s.order = .noFrame) : u.order = .noFrame :=
  forEach_keeps (P := fun s => s.order = .noFrame) (fun i hi _ _ hexec => (exec_effect hexec).noFrame (hops i hi)) h hs

theorem forEach_fmt_eq {ops : List Instr} {s u : State} (hops : ∀ i ∈ ops, i ≠ .lsFrameStart)
    (h : forEach exec ops s = .next u) (hu : u.order ≠ .noFrame) : u.fmt = s.fmt := by
  induction ops generalizing s with
  | nil =>
    cases h
    rfl
  | cons i ops ih =>
    obtain ⟨t, ht, hrest⟩ := andThen_eq_next.mp h
    have hopsRest : ∀ j ∈ ops, j ≠ .lsFrameStart := fun j hj => hops j (List.mem_cons_of_mem i hj)
    have horder : t.order ≠ .noFrame := fun hno => hu (forEach_noFrame hopsRest hrest hno)
    rw [ih hopsRest hrest, (exec_effect ht).fmt_eq (hops i List.mem_cons_self) horder]

/-- In mid-frame PF.SELECT is refused, so a run that stays within the frame keeps the format. -/
theorem forEach_fmt_eq_of_midFrame {ops : List Instr} {s u : State} {n : Nat} (horder : s.order = .inFrame n) (hpos : 0 < n)
    (hend : s.params.frameEnd = .atNextFrameStart ∨ n + (ops.filter drawsLine).length < s.lines)
    (hops : ∀ i ∈ ops, i ≠ .lsFrameStart) (h : forEach exec ops s = .next u) : u.fmt = s.fmt := by
  induction ops generalizing s n with
  | nil =>
    cases h
    rfl
  | cons i ops ih =>
    obtain ⟨t, ht, hrest⟩ := andThen_eq_next.mp h
    have heffect := exec_effect ht
    have hmid : midFrame s = true :=
      midFrame_eq_true_iff.mpr ⟨n, horder, hpos, hend.imp_right (Nat.lt_of_le_of_lt (Nat.le_add_right _ _))⟩
    have hselect : ∀ code, i ≠ .pfSelect code := by
      rintro code rfl
      exact absurd hmid (by simp [heffect.of_select.1])
    obtain ⟨hfmt, hlines, hparams, htorder⟩ := heffect.sequencing (hops i List.mem_cons_self) hselect
    rw [horder] at htorder
    have hopsRest : ∀ j ∈ ops, j ≠ .lsFrameStart := fun j hj => hops j (List.mem_cons_of_mem i hj)
    rw [← hlines, ← hparams, List.filter_cons] at hend
    rw [← hfmt]
    cases hline : drawsLine i with
    | false =>
      rw [hline] at htorder hend
      exact ih htorder hpos hend hopsRest hrest
    | true =>
      rw [hline] at htorder hend
      refine ih htorder (Nat.succ_pos n) (hend.imp_right fun hlt => ?_) hopsRest hrest
      rw [if_pos rfl, List.length_cons] at hlt
      omega

/-- Settles O53: PF.SELECT leaves no frame, no operation but LS.FRAME_START starts one, and in mid-frame PF.SELECT is refused. -/
theorem formatNeverChangesInMidFrame : Obligations.FormatNeverChangesInMidFrame := by
  refine ⟨fun code line s t u v ops ht hops hu hv => ?_, fun s u ops hops h hu => forEach_fmt_eq hops h hu,
    fun s u ops n horder hpos hend hops h => forEach_fmt_eq_of_midFrame horder hpos hend hops h⟩
  have hno : u.order = .noFrame := forEach_noFrame hops hu (exec_effect ht).of_select.2
  obtain ⟨-, -, -, horder⟩ := lineReady_of_next hv
  exact horder hno

/-! ## The invariant -/

/-- A change of working state that keeps the memories canonical and the slots in range keeps the invariant: it does not speak of
the rest. -/
theorem State.Inv.of_working {s : State} (h : s.Inv) {reg : Vector Byte 16} {status : Byte} {vram : Memory}
    {cram : Vector Half 32} {dirty : Bool} {kill : BitVec 3} {lb : LineBuffer} {slot : Vector Slot 8} {nslot : Fin 9}
    {lut : Vector Half 256} {out : List (Nat × Row)} {count hookBegin hookEnd : Nat} {calls : List HostCall}
    {host : List HostAction} {free : Nat} (hvram : vram.wf = true) (hslot : SlotsInRange slot) (hout : rowsWf out = true) :
    State.Inv { s with reg := reg, status := status, vram := vram, cram := cram, dirty := dirty, kill := kill, lb := lb
                       slot := slot, nslot := nslot, lut := lut, out := out, rebuildCount := count
                       hookBegin := hookBegin, hookEnd := hookEnd, calls := calls, host := host, freeCount := free } where
  vramWf := hvram
  outWf := hout
  slotRange := hslot
  modeChanged := h.modeChanged
  geometry := h.geometry
  told := h.told
  skipping := h.skipping
  format := h.format
  row := h.row

theorem LayerChange.inv {keep : Byte} {s t : State} (h : LayerChange keep s t) (hs : s.Inv) : t.Inv := by
  obtain ⟨_, _, _, _, rfl, -, hslot⟩ := h
  exact hs.of_working hs.vramWf (hslot hs.slotRange) hs.outWf

theorem FinalizeChange.inv {s t : State} (h : FinalizeChange s t) (hs : s.Inv) : t.Inv := by
  obtain ⟨_, _, _, _, rfl, -, hwf⟩ := h
  exact hs.of_working hs.vramWf hs.slotRange (hwf hs.outWf)

theorem inv_frameStart {s : State} (hs : s.Inv) : (frameStart s).Inv := by
  rw [frameStart_eq]
  refine
    { vramWf := hs.vramWf, outWf := hs.outWf, slotRange := hs.slotRange, modeChanged := ⟨nofun, nofun⟩, geometry := fun _ => ?_
      told := fun _ => rfl, skipping := fun hpos => absurd hpos (Nat.lt_irrefl 0), format := nofun, row := fun n hn => ?_ }
  · obtain ⟨-, -, -, -, hg⟩ | ⟨-, -, -, -, hg⟩ | ⟨-, hg⟩ := frameGeometry_cases s
    · exact .inr (.inl hg)
    · exact .inr (.inr hg)
    · exact .inl hg
  · exact ⟨Nat.le_refl _, Nat.le_add_right _ _⟩

theorem lineIssued_eq_noFrame_iff {o : CallOrder} : o.lineIssued = .noFrame ↔ o = .noFrame := by
  cases o <;> simp [CallOrder.lineIssued]

theorem lineIssued_eq_inFrame {o : CallOrder} {n : Nat} (h : o.lineIssued = .inFrame n) : ∃ m, n = m + 1 ∧ o = .inFrame m := by
  cases o with
  | noFrame => cases h
  | inFrame m =>
    cases h
    exact ⟨m, rfl, rfl⟩

/-- A line that the order counts keeps the invariant, skipped or drawn: the row moves on by at most one. -/
theorem State.Inv.of_lineIssued {s : State} (h : s.Inv) (hfmt : s.fmt ≠ .notSelected) {skip row : Nat}
    (hlo : s.outRow ≤ row) (hhi : row ≤ s.outRow + 1) :
    State.Inv { s with skipCount := skip, outRow := row, order := s.order.lineIssued } where
  vramWf := h.vramWf
  outWf := h.outWf
  slotRange := h.slotRange
  modeChanged := h.modeChanged.trans lineIssued_eq_noFrame_iff.symm
  geometry := fun horder => h.geometry fun hno => horder (lineIssued_eq_noFrame_iff.mpr hno)
  told := fun horder => h.told fun hno => horder (lineIssued_eq_noFrame_iff.mpr hno)
  skipping := fun _ horder => by
    obtain ⟨m, hm, -⟩ := lineIssued_eq_inFrame horder
    cases hm
  format := fun _ _ => hfmt
  row := fun n horder => by
    obtain ⟨m, rfl, hm⟩ := lineIssued_eq_inFrame horder
    obtain ⟨hbottom, htop⟩ := h.row m hm
    exact ⟨hbottom.trans hlo, hhi.trans (Nat.succ_le_succ htop)⟩

theorem inv_select {s : State} (hs : s.Inv) (f : Format) :
    State.Inv { s with fmt := f, modeChanged := true, order := .noFrame } where
  vramWf := hs.vramWf
  outWf := hs.outWf
  slotRange := hs.slotRange
  modeChanged := ⟨fun _ => rfl, fun _ => rfl⟩
  geometry := fun h => absurd rfl h
  told := fun h => absurd rfl h
  skipping := nofun
  format := nofun
  row := nofun

/-- Every operation keeps the invariant. -/
theorem Effect.inv {i : Instr} {s t : State} (h : Effect i s t) (hs : s.Inv) : t.Inv := by
  cases h with
  | draw | drawM2 | rebuild => exact hs.of_working hs.vramWf hs.slotRange hs.outWf
  | scanM4 => exact (layerChange_scanM4 _ s).inv hs
  | scanM2 => exact (layerChange_scanM2 _ s).inv hs
  | frameStart => exact inv_frameStart hs
  | displayM4 h | displayM2 h => exact h.inv hs
  | skipLine hready => exact hs.of_lineIssued hready.2.2.1 (Nat.le_refl _) (Nat.le_add_right _ _)
  | drawLine hready h =>
    obtain ⟨_, _, _, _, _, _, _, _, rfl, -, hslot, -, hwf⟩ := h
    exact (hs.of_lineIssued hready.2.2.1 (Nat.le_add_right _ 1) (Nat.le_refl (s.outRow + 1))).of_working hs.vramWf
      (hslot hs.slotRange) (hwf hs.outWf)
  | select f => exact inv_select hs f
  | finalize h => exact h.inv hs

/-- A directive of the host keeps the invariant: of what it speaks of a directive writes VRAM alone. -/
theorem inv_applyAction {s : State} (hs : s.Inv) (a : HostAction) : (applyAction a s).Inv := by
  cases a with
  | issue => exact hs
  | vram | vram16 | vramFill => exact hs.of_working (Memory.wf_writeBytes hs.vramWf _ _) hs.slotRange hs.outWf
  | reg | cram | dirty | kill | status | hooks => exact hs.of_working hs.vramWf hs.slotRange hs.outWf

theorem inv_setHost {s : State} (hs : s.Inv) (h : List HostAction) : (s.setHost h).Inv :=
  hs.of_working hs.vramWf hs.slotRange hs.outWf

/-- What a step that answers has done: nothing, an act of the host by itself, or an operation of the stream. -/
theorem step_cases {s t : State} (h : step s = .next t) :
    t = s ∨ (∃ a h, t = applyAction a (s.setHost h)) ∨ ∃ i h, exec i (s.setHost h) = .next t := by
  cases hhost : s.host with
  | nil =>
    rw [idleStepKeepsEverything s hhost] at h
    exact .inl (Host.Outcome.next.inj h).symm
  | cons a rest =>
    by_cases hissue : ∃ bs, a = .issue bs
    · obtain ⟨bs, rfl⟩ := hissue
      cases bs with
      | nil =>
        simp only [step, fetch, hhost, fetchStream] at h
        exact .inr (.inl ⟨.issue [], rest, (Host.Outcome.next.inj h).symm⟩)
      | cons b bs =>
        cases hdecode : decode (b :: bs) with
        | error e =>
          rw [step_of_decode_error hhost hdecode] at h
          cases h
        | ok r =>
          rw [step_of_decode_ok hhost hdecode] at h
          exact .inr (.inr ⟨r.1, _, h⟩)
    · rw [step_of_directive hhost fun bs hbs => hissue ⟨bs, hbs⟩] at h
      exact .inr (.inl ⟨a, rest, (Host.Outcome.next.inj h).symm⟩)

/-- Settles O3: an act of the host keeps the invariant, and so does each operation's effect. -/
theorem stepKeepsInvariant : Obligations.StepKeepsInvariant := by
  intro s t hs h
  obtain rfl | ⟨a, rest, rfl⟩ | ⟨i, rest, hexec⟩ := step_cases h
  · exact hs
  · exact inv_applyAction (inv_setHost hs rest) a
  · exact (exec_effect hexec).inv (inv_setHost hs rest)

end Sys2Proof.Machine
end

section
/-! PROOFS. When an operation completes (R70, R77, R192): exactly when its operands are in range and the state is ready. -/

namespace Sys2Proof.Machine

/-! ## Results -/

theorem completes_next (s : State) : Completes (.next s) := ⟨s, rfl⟩

theorem not_completes_refused (e : Refusal) : ¬ Completes (.refused e) := fun ⟨_, h⟩ => nomatch h

/-- What does not complete is refused, because nothing faults (R190). -/
theorem refused_of_not_completes {r : Result} (h : ¬ Completes r) : ∃ e, r = .refused e := by
  cases r with
  | next s => exact absurd (completes_next s) h
  | fault e => cases e
  | refused e => exact ⟨e, rfl⟩

/-- A total meaning under a bound completes exactly within the bound. -/
theorem completes_bounded_iff {c : Prop} [Decidable c] {r : Result} {e : Refusal} (hr : Completes r) :
    Completes (if c then r else .refused e) ↔ c := by
  split
  next hc => exact iff_of_true hr hc
  next hc => exact iff_of_false (not_completes_refused e) hc

theorem completes_tdDraw_iff {sx : Int} {w : Nat} {px : Nat → Option Byte} {s : State} :
    Completes (tdDraw sx w px s) ↔ 0 ≤ sx ∧ sx + w ≤ 304 := completes_bounded_iff (completes_next _)

/-- At a natural offset only the right edge bounds a draw. -/
theorem completes_tdDraw_natCast_iff {sx w : Nat} {px : Nat → Option Byte} {s : State} :
    Completes (tdDraw sx w px s) ↔ sx + w ≤ 304 := by
  rw [completes_tdDraw_iff]
  omega

/-! ## The sprite draws -/

/-- Every pass of a loop that completes, its passes changing the line buffer only, has completed on some line buffer. -/
theorem completes_of_forEach {α : Type} {f : α → State → Result}
    (hframe : ∀ {a s t}, f a s = .next t → t = s.setLb t.lb) {l : List α} {s : State} (h : Completes (forEach f l s)) :
    ∀ a ∈ l, ∃ lb, Completes (f a (s.setLb lb)) := by
  induction l generalizing s with
  | nil => exact nofun
  | cons b l ih =>
    obtain ⟨t, ht⟩ := h
    obtain ⟨u, hu, hrest⟩ := andThen_eq_next.mp ht
    intro a ha
    obtain rfl | ha := List.mem_cons.mp ha
    · exact ⟨s.lb, u, hu⟩
    · obtain ⟨lb, hlb⟩ := ih ⟨t, hrest⟩ a ha
      rw [hframe hu] at hlb
      exact ⟨lb, hlb⟩

theorem mem_drawOrder {s : State} {k : Nat} : k ∈ drawOrder s ↔ k < s.nslot.val := by
  rw [drawOrder, List.mem_reverse, List.mem_range]

theorem completes_drawM4_iff {s : State} : Completes (drawM4 s) ↔ SlotsFit4 s := by
  refine ⟨fun h k hk => ?_, fun hfit => ?_⟩
  · obtain ⟨lb, hlb⟩ := completes_of_forEach drawSlot4_frame h k (mem_drawOrder.mpr hk)
    rw [drawSlot4_eq, completes_tdDraw_iff, natCast_halfWidth] at hlb
    exact hlb
  · obtain ⟨t, ht, -⟩ := drawM4_draws hfit
    exact ⟨t, ht⟩

theorem fits_of_completes_drawHalf2 {x : Int} {pack pal : Byte} {s : State} (h : Completes (drawHalf2 x pack pal s))
    (hx : 0 < x) : x + halfWidth s ≤ 304 := by
  rw [drawHalf2_of_pos hx, completes_tdDraw_iff] at h
  exact h.2

/-- Both halves of a slot that was drawn fit, where they are drawn. -/
theorem fits_of_completes_drawSlot2 {s : State} {k : Nat} (h : Completes (drawSlot2 k s)) :
    (0 < (slotAt s k).x → (slotAt s k).x + halfWidth s ≤ 304)
      ∧ (sprSize s = true → 0 < (slotAt s k).x + halfWidth s → (slotAt s k).x + 2 * halfWidth s ≤ 304) := by
  obtain ⟨t, ht⟩ := h
  obtain ⟨u, hu, hsecond⟩ := andThen_eq_next.mp ht
  refine ⟨fits_of_completes_drawHalf2 ⟨u, hu⟩, fun hsize hx => ?_⟩
  have hframe := drawHalf2_frame hu
  have hsizeU : sprSize u = true := by rw [hframe, sprSize_setLb, hsize]
  have hslotU : slotAt u k = slotAt s k := by rw [hframe, slotAt_setLb]
  have hwidthU : halfWidth u = halfWidth s := by rw [hframe, halfWidth_setLb]
  simp only [if_pos hsizeU, hslotU, hwidthU] at hsecond
  have hfit := fits_of_completes_drawHalf2 ⟨t, hsecond⟩ hx
  rw [hwidthU] at hfit
  omega

theorem completes_drawM2_iff {s : State} : Completes (drawM2 s) ↔ SlotsFit2 s := by
  refine ⟨fun ⟨t, ht⟩ k hk => ?_, fun hfit => ?_⟩
  · obtain ⟨u, hu, -⟩ := andThen_eq_next.mp ht
    obtain ⟨lb, hlb⟩ := completes_of_forEach drawSlot2_frame ⟨u, hu⟩ k (mem_drawOrder.mpr hk)
    have hfits := fits_of_completes_drawSlot2 hlb
    rw [natCast_halfWidth] at hfits
    exact hfits
  · obtain ⟨u, hu, -⟩ := drawM2_draws hfit
    exact ⟨_, hu⟩

/-! ## Strips, lines and formats -/

theorem completes_lowStrip_iff {row dx n col ty : Nat} {s : State} :
    Completes (lowStrip row dx n col ty s) ↔ n ≤ 33 ∧ dx + 8 * n ≤ 304 :=
  ⟨fun ⟨_, ht⟩ => (strip_eq_next.mp ht).1, fun h => lowStrip_completes h s⟩

theorem completes_highStrip_iff {row dx n col ty : Nat} {s : State} :
    Completes (highStrip row dx n col ty s) ↔ n ≤ 33 ∧ dx + 8 * n ≤ 304 :=
  ⟨fun ⟨_, ht⟩ => (strip_eq_next.mp ht).1, fun h => highStrip_completes h s⟩

theorem completes_lineDraw_iff {line : Nat} {s : State} : Completes (lineDraw line s) ↔ LineReady line s := by
  refine ⟨fun ⟨_, ht⟩ => lineReady_of_next ht, fun hready => ?_⟩
  rw [lineDraw_of_ready hready]
  split
  · exact completes_next _
  · obtain ⟨t, ht, -⟩ := drawnLine_completes hready.1 hready.2.2.1
    exact ⟨t, ht⟩

theorem completes_select_iff {n : Nat} {s : State} : Completes (select n s) ↔ n < 5 ∧ midFrame s = false := by
  by_cases hn : n < 5
  · obtain ⟨f, hf⟩ := exists_formatOf hn
    cases hmid : midFrame s with
    | true =>
      rw [select_of_midFrame hf hmid]
      exact iff_of_false (not_completes_refused _) (by simp)
    | false =>
      rw [select_of_not_midFrame hf hmid]
      exact iff_of_true (completes_next _) ⟨hn, rfl⟩
  · rw [select_of_reserved (by omega)]
    exact iff_of_false (not_completes_refused _) fun h => hn h.1

theorem completes_rebuild_iff {s : State} : Completes (rebuild s) ↔ s.fmt.isDirect := by
  by_cases hdirect : s.fmt.isDirect
  · obtain ⟨pixel, hpixel⟩ := exists_layout_of_isDirect hdirect
    exact iff_of_true ⟨_, rebuild_eq_next.mpr ⟨pixel, hpixel, rfl⟩⟩ hdirect
  · have hrefused : rebuild s = .refused .rebuildWithoutDirectColour := rebuildNeedsDirectColour s hdirect
    rw [hrefused]
    exact iff_of_false (not_completes_refused _) hdirect

theorem completes_finalize_iff {s : State} : Completes (finalize s) ↔ s.fmt ≠ .notSelected := by
  refine ⟨fun h hfmt => ?_, fun hfmt => ?_⟩
  · rw [finalize_of_notSelected hfmt] at h
    exact not_completes_refused _ h
  · obtain ⟨t, ht, -⟩ := finalize_completes hfmt
    exact ⟨t, ht⟩

/-! ## All 24 operations -/

/-- Settles O19: operation by operation, each by its unit's condition. -/
theorem operationsCompleteExactlyWhenLegal : Obligations.OperationsCompleteExactlyWhenLegal := by
  intro i s
  cases i with
  | tdM4Norm | tdM4Flip | tdM4NormBg | tdM4FlipBg | tdM4Dbl | tdM2Spr | tdM2Bg | tdM2SprDbl =>
    simp only [exec_tdM4Norm, exec_tdM4Flip, exec_tdM4NormBg, exec_tdM4FlipBg, exec_tdM4Dbl, exec_tdM2Spr, exec_tdM2Bg,
      exec_tdM2SprDbl, completes_tdDraw_natCast_iff, Instr.wf, Ready, decide_eq_true_iff, and_true]
  | scM4Low => simp only [exec_scM4Low, completes_lowStrip_iff, Instr.wf, Ready, decide_eq_true_iff, and_true]
  | scM4High => simp only [exec_scM4High, completes_highStrip_iff, Instr.wf, Ready, decide_eq_true_iff, and_true]
  | ssM4Draw => simp only [exec_ssM4Draw, completes_drawM4_iff, Instr.wf, Ready, true_and]
  | ssM2Draw => simp only [exec_ssM2Draw, completes_drawM2_iff, Instr.wf, Ready, true_and]
  | lsFrameStart | lsBackfill | lsMaskCol0 => exact iff_of_true (completes_next _) ⟨rfl, trivial⟩
  | lsLineDraw =>
    simp only [exec_lsLineDraw, completes_lineDraw_iff, LineReady, Instr.wf, Ready, decide_eq_true_iff]
  | pfSelect => simp only [exec_pfSelect, completes_select_iff, Instr.wf, Ready, decide_eq_true_iff]
  | pfRebuild => simp only [exec_pfRebuild, completes_rebuild_iff, Instr.wf, Ready, true_and]
  | pfFinalize => simp only [exec_pfFinalize, completes_finalize_iff, Instr.wf, Ready, true_and]
  | ssM4Scan line | ssM2Scan line =>
    simp only [Instr.wf, Ready, decide_eq_true_iff, and_true]
    exact completes_bounded_iff (completes_next _)
  | scM2Bg line =>
    simp only [Instr.wf, Ready, decide_eq_true_iff, and_true]
    exact completes_bounded_iff (background2Strip_completes _ s)
  | lsM4Display line =>
    simp only [Instr.wf, Ready, decide_eq_true_iff, and_true]
    refine ⟨fun ⟨_, ht⟩ => (bounded_eq_next ht).1, fun hline => ?_⟩
    obtain ⟨t, ht, -⟩ := displayM4_completes hline s
    exact ⟨t, (exec_lsM4Display hline s).trans ht⟩
  | lsM2Display line =>
    simp only [Instr.wf, Ready, decide_eq_true_iff, and_true]
    obtain ⟨t, ht, -⟩ := displayM2_completes line.toNat s
    exact completes_bounded_iff ⟨t, ht⟩

/-- Settles O20: an operation that is not well formed does not complete, and what does not complete is refused. -/
theorem illFormedOperationsRefused : Obligations.IllFormedOperationsRefused := by
  intro i s hwf
  refine refused_of_not_completes fun h => ?_
  have hlegal := (operationsCompleteExactlyWhenLegal i s).mp h
  exact absurd hlegal.1 (by simp [hwf])

end Sys2Proof.Machine
end

section
/-! PROOFS. Two runs side by side, from states that differ in `status` and in register bits that no rule names (R14, R17, U17): no
operation reads either, so the runs answer alike. -/

namespace Sys2Proof.Machine

/-! ## States that read alike -/

/-- `s'` is `s` but for the registers, which are `r` and hold the named bits of `s`'s, and for `status`: with `a` ORed in it is
what `s`'s is with `v` ORed in. -/
def Alike (r : Vector Byte 16) (a v : Byte) (s s' : State) : Prop :=
  ∃ x, s' = { s with reg := r, status := x } ∧ x ||| a = v ||| s.status
    ∧ ∀ n, (h : n < 16) → r[n] &&& namedBits[n] = s.reg[n] &&& namedBits[n]

/-- The two runs answer alike: alike states, or the same refusal. -/
def BothAnswer (r : Vector Byte 16) (a v : Byte) (x x' : Result) : Prop :=
  (∃ t t', x = .next t ∧ x' = .next t' ∧ Alike r a v t t') ∨ ∃ e, x = .refused e ∧ x' = .refused e

theorem getLsbD_eq_of_and_eq {b c m : Byte} (h : b &&& m = c &&& m) {i : Nat} (hi : m.getLsbD i = true) :
    b.getLsbD i = c.getLsbD i := by
  have hbit := congrArg (BitVec.getLsbD · i) h
  simpa [BitVec.getLsbD_and, hi] using hbit

theorem and_eq_of_and_eq {b c m k : Byte} (h : b &&& m = c &&& m) (hk : m &&& k = k) : b &&& k = c &&& k := by
  rw [← hk, ← BitVec.and_assoc, ← BitVec.and_assoc, h]

section
variable {r : Vector Byte 16} {a v : Byte} {s s' : State} (h : Alike r a v s s')
include h

/-! ### The control registers -/

theorem Alike.named {n : Nat} (hn : n < 16) : s'.reg[n] &&& namedBits[n] = s.reg[n] &&& namedBits[n] := by
  obtain ⟨_, rfl, -, hnamed⟩ := h
  exact hnamed n hn

theorem Alike.vlock_eq : vlock s' = vlock s := getLsbD_eq_of_and_eq (h.named (n := 0) (by decide)) rfl
theorem Alike.hlock_eq : hlock s' = hlock s := getLsbD_eq_of_and_eq (h.named (n := 0) (by decide)) rfl
theorem Alike.mask0_eq : mask0 s' = mask0 s := getLsbD_eq_of_and_eq (h.named (n := 0) (by decide)) rfl
theorem Alike.sshift_eq : sshift s' = sshift s := getLsbD_eq_of_and_eq (h.named (n := 0) (by decide)) rfl
theorem Alike.mode4_eq : mode4 s' = mode4 s := getLsbD_eq_of_and_eq (h.named (n := 0) (by decide)) rfl
theorem Alike.bitM2_eq : bitM2 s' = bitM2 s := getLsbD_eq_of_and_eq (h.named (n := 0) (by decide)) rfl
theorem Alike.disp_eq : disp s' = disp s := getLsbD_eq_of_and_eq (h.named (n := 1) (by decide)) rfl
theorem Alike.bitM1_eq : bitM1 s' = bitM1 s := getLsbD_eq_of_and_eq (h.named (n := 1) (by decide)) rfl
theorem Alike.bitM3_eq : bitM3 s' = bitM3 s := getLsbD_eq_of_and_eq (h.named (n := 1) (by decide)) rfl
theorem Alike.sprSize_eq : sprSize s' = sprSize s := getLsbD_eq_of_and_eq (h.named (n := 1) (by decide)) rfl
theorem Alike.zoom_eq : zoom s' = zoom s := getLsbD_eq_of_and_eq (h.named (n := 1) (by decide)) rfl

theorem Alike.frameGeometry_eq : frameGeometry s' = frameGeometry s := by
  rw [frameGeometry, h.mode4_eq, h.bitM2_eq, h.bitM1_eq, h.bitM3_eq, frameGeometry]

theorem Alike.tallMode_eq : tallMode s' = tallMode s := by rw [tallMode, h.frameGeometry_eq, tallMode]

/-- A masked register, the mask within the named bits, reads alike. -/
theorem Alike.masked {n : Nat} (hn : n < 16) {m : Byte} (hm : namedBits[n] &&& m = m) : s'.reg[n] &&& m = s.reg[n] &&& m :=
  and_eq_of_and_eq (h.named hn) hm

theorem Alike.nameBase4_eq : nameBase4 s' = nameBase4 s := by
  rw [nameBase4, h.tallMode_eq, h.masked (n := 2) (by decide) rfl, h.masked (n := 2) (by decide) rfl, nameBase4]

theorem Alike.nameBase2_eq : nameBase2 s' = nameBase2 s := by rw [nameBase2, h.masked (n := 2) (by decide) rfl, nameBase2]
theorem Alike.colourBase2_eq : colourBase2 s' = colourBase2 s := by
  rw [colourBase2, h.masked (n := 3) (by decide) rfl, colourBase2]
theorem Alike.patternBase2_eq : patternBase2 s' = patternBase2 s := by
  rw [patternBase2, h.masked (n := 4) (by decide) rfl, patternBase2]
theorem Alike.satBase4_eq : satBase4 s' = satBase4 s := by rw [satBase4, h.masked (n := 5) (by decide) rfl, satBase4]
theorem Alike.satBase2_eq : satBase2 s' = satBase2 s := by rw [satBase2, h.masked (n := 5) (by decide) rfl, satBase2]
theorem Alike.sprBase4_eq : sprBase4 s' = sprBase4 s := by rw [sprBase4, h.masked (n := 6) (by decide) rfl, sprBase4]
theorem Alike.sprBase2_eq : sprBase2 s' = sprBase2 s := by rw [sprBase2, h.masked (n := 6) (by decide) rfl, sprBase2]
theorem Alike.backdrop_eq : backdrop s' = backdrop s := by
  rw [backdrop, h.masked (n := 7) (by decide) rfl, h.mode4_eq, backdrop]

/-- The two scroll registers are named whole. -/
theorem Alike.scrollRegs_eq : s'.reg[8] = s.reg[8] ∧ s'.reg[9] = s.reg[9] := by
  have hwhole : ∀ b : Byte, b &&& 0xFF#8 = b := fun b => BitVec.and_allOnes
  have h8 := h.named (n := 8) (by decide)
  have h9 := h.named (n := 9) (by decide)
  exact ⟨(hwhole _).symm.trans (h8.trans (hwhole _)), (hwhole _).symm.trans (h9.trans (hwhole _))⟩

theorem Alike.scrollOf_eq (line : Nat) : scrollOf s' line = scrollOf s line := by
  obtain ⟨h8, h9⟩ := h.scrollRegs_eq
  have hvline : vline s' line = vline s line := by rw [vline, h.tallMode_eq, h9, vline]
  have hhscroll : hscroll s' line = hscroll s line := by simp only [hscroll, h.hlock_eq, h8]
  simp only [scrollOf, hvline, hhscroll, h.nameBase4_eq]

/-! ### VRAM, the tables and the slots -/

theorem Alike.vread8_eq : vread8 s' = vread8 s := by
  obtain ⟨_, rfl, -⟩ := h
  rfl

theorem Alike.vread32_eq : vread32 s' = vread32 s := by
  obtain ⟨_, rfl, -⟩ := h
  rfl

theorem Alike.columnCode_eq : columnCode s' = columnCode s := by
  obtain ⟨_, rfl, -⟩ := h
  rfl

theorem Alike.slotAt_eq : slotAt s' = slotAt s := by
  obtain ⟨_, rfl, -⟩ := h
  rfl

theorem Alike.slotColour_eq : slotColour s' = slotColour s := by
  obtain ⟨_, rfl, -⟩ := h
  rfl

theorem Alike.drawOrder_eq : drawOrder s' = drawOrder s := by
  obtain ⟨_, rfl, -⟩ := h
  rfl

theorem Alike.lb_eq : s'.lb = s.lb := by
  obtain ⟨_, rfl, -⟩ := h
  rfl

theorem Alike.killBits_eq : killBg s' = killBg s ∧ killSpr s' = killSpr s ∧ killFg s' = killFg s := by
  obtain ⟨_, rfl, -⟩ := h
  exact ⟨rfl, rfl, rfl⟩

theorem Alike.sequencing_eq :
    midFrame s' = midFrame s ∧ s'.fmt = s.fmt ∧ s'.lines = s.lines ∧ s'.order = s.order ∧ s'.skipCount = s.skipCount
      ∧ s'.dirty = s.dirty := by
  obtain ⟨_, rfl, -⟩ := h
  exact ⟨rfl, rfl, rfl, rfl, rfl, rfl⟩

theorem Alike.halfWidth_eq : halfWidth s' = halfWidth s := by rw [halfWidth, h.zoom_eq, halfWidth]

theorem Alike.walk4_eq (line : Nat) : walk4 s' line = walk4 s line := by
  have hy : sprY4 s' = sprY4 s := funext fun i => by rw [sprY4, h.vread8_eq, h.satBase4_eq, sprY4]
  have hheight : sprHeight s' = sprHeight s := by rw [sprHeight, h.sprSize_eq, h.zoom_eq, sprHeight]
  have hstop : stop4 s' = stop4 s := funext fun i => by rw [stop4, hy, h.tallMode_eq, stop4]
  have hhit : hit4 s' line = hit4 s line := funext fun i => by rw [hit4, hy, hheight, hit4]
  have hslot : slot4 s' line = slot4 s line := funext fun i => by
    simp only [slot4, h.sshift_eq, h.vread8_eq, h.satBase4_eq, h.sprBase4_eq, nameMask4, h.sprSize_eq, hy, zoomShift, h.zoom_eq]
  rw [walk4, hstop, hhit, hslot, walk4]

theorem Alike.walk2_eq (line : Nat) : walk2 s' line = walk2 s line := by
  have hy : sprRawY2 s' = sprRawY2 s := funext fun i => by rw [sprRawY2, h.vread8_eq, h.satBase2_eq, sprRawY2]
  have hheight : sprHeight s' = sprHeight s := by rw [sprHeight, h.sprSize_eq, h.zoom_eq, sprHeight]
  have hstop : stop2 s' = stop2 s := funext fun i => by rw [stop2, hy, stop2]
  have hhit : hit2 s' line = hit2 s line := funext fun i => by rw [hit2, hy, hheight, hit2]
  have hslot : slot2 s' line = slot2 s line := funext fun i => by
    simp only [slot2, h.vread8_eq, h.satBase2_eq, h.sprBase2_eq, nameMask2, h.sprSize_eq, hy, zoomShift, h.zoom_eq]
  rw [walk2, hstop, hhit, hslot, walk2]

theorem Alike.rebuiltLut_eq (pixel : Colour → Half) : rebuiltLut s' pixel = rebuiltLut s pixel := by
  have hsource : sourceColour s' = sourceColour s := funext fun i => by
    rw [sourceColour, h.mode4_eq]
    obtain ⟨_, rfl, -⟩ := h
    rfl
  rw [rebuiltLut, hsource, rebuiltLut]

/-! ### Updates keep states alike -/

theorem Alike.setLb (lb : LineBuffer) : Alike r a v (s.setLb lb) (s'.setLb lb) := by
  obtain ⟨x, rfl, hstatus, hnamed⟩ := h
  exact ⟨x, rfl, hstatus, hnamed⟩

theorem Alike.commitScan (slots : List Slot) (bits : Byte) :
    Alike r a v (commitScan slots bits s) (commitScan slots bits s') := by
  obtain ⟨x, rfl, hstatus, hnamed⟩ := h
  have hored : ∀ {x y : Byte}, x ||| a = v ||| y → ∀ b, x ||| b ||| a = v ||| (y ||| b) := fun hxy b => by
    rw [BitVec.or_assoc, BitVec.or_comm b, ← BitVec.or_assoc, hxy, BitVec.or_assoc]
  exact ⟨x ||| bits ||| collision slots.length, rfl, hored (hored hstatus bits) _, hnamed⟩

theorem Alike.scanM4 (line : Nat) : Alike r a v (scanM4 line s) (scanM4 line s') := by
  rw [Machine.scanM4, Machine.scanM4, h.walk4_eq]
  exact h.commitScan _ _

theorem Alike.scanM2 (line : Nat) : Alike r a v (scanM2 line s) (scanM2 line s') := by
  rw [Machine.scanM2, Machine.scanM2, h.walk2_eq]
  exact h.commitScan _ _

theorem Alike.useFreeColours : Alike r a v (useFreeColours s) (useFreeColours s') := by
  obtain ⟨x, rfl, hstatus, hnamed⟩ := h
  exact ⟨x, rfl, hstatus, hnamed⟩

theorem Alike.backfill : Alike r a v (backfill s) (backfill s') := by
  rw [Machine.backfill, Machine.backfill, h.backdrop_eq]
  exact h.setLb _

theorem Alike.maskCol0 : Alike r a v (maskCol0 s) (maskCol0 s') := by
  rw [Machine.maskCol0, Machine.maskCol0, h.mask0_eq, h.lb_eq]
  split
  · exact h.setLb _
  · exact h

theorem Alike.scanBegin (line : Nat) : Alike r a v (scanBegin line s) (scanBegin line s') := by
  obtain ⟨x, rfl, hstatus, hnamed⟩ := h
  exact ⟨x, rfl, hstatus, hnamed⟩

theorem Alike.advanceRow_scanEnd (line : Nat) :
    Alike r a v (advanceRow (scanEnd line s)) (advanceRow (scanEnd line s')) := by
  obtain ⟨x, rfl, hstatus, hnamed⟩ := h
  exact ⟨x, rfl, hstatus, hnamed⟩

theorem Alike.skippedLine : Alike r a v (skippedLine s) (skippedLine s') := by
  obtain ⟨x, rfl, hstatus, hnamed⟩ := h
  exact ⟨x, rfl, hstatus, hnamed⟩

theorem Alike.notifyGeometry : Alike r a v (notifyGeometry s) (notifyGeometry s') := by
  have hlive : liveGeometry s' = liveGeometry s := by
    rw [liveGeometry, h.frameGeometry_eq]
    obtain ⟨_, rfl, -⟩ := h
    rfl
  rw [Machine.notifyGeometry, Machine.notifyGeometry, hlive]
  obtain ⟨x, rfl, hstatus, hnamed⟩ := h
  split
  · exact ⟨x, rfl, hstatus, hnamed⟩
  · exact ⟨x, rfl, hstatus, hnamed⟩

theorem Alike.frameStart : Alike r a v (frameStart s) (frameStart s') := by
  rw [Machine.frameStart, Machine.frameStart, h.frameGeometry_eq]
  obtain ⟨x, hx, hstatus, hnamed⟩ := h.notifyGeometry
  exact ⟨x, by rw [hx], hstatus, hnamed⟩

theorem Alike.putRow {p p' : Row} (hp : p' = p) : Alike r a v (s.putRow p) (s'.putRow p') := by
  obtain ⟨x, rfl, hstatus, hnamed⟩ := h
  rw [hp]
  exact ⟨x, rfl, hstatus, hnamed⟩

end

/-! ## Results that are alike -/

section
variable {r : Vector Byte 16} {a v : Byte} {s s' : State}

theorem BothAnswer.next (h : Alike r a v s s') : BothAnswer r a v (.next s) (.next s') := .inl ⟨s, s', rfl, rfl, h⟩

theorem BothAnswer.refused (e : Refusal) : BothAnswer r a v (.refused e) (.refused e) := .inr ⟨e, rfl, rfl⟩

theorem BothAnswer.ite {c c' : Prop} [Decidable c] [Decidable c'] (hc : c' ↔ c) {x x' y y' : Result}
    (hx : c → BothAnswer r a v x x') (hy : ¬ c → BothAnswer r a v y y') :
    BothAnswer r a v (if c then x else y) (if c' then x' else y') := by
  by_cases hcase : c
  · rw [if_pos hcase, if_pos (hc.mpr hcase)]
    exact hx hcase
  · rw [if_neg hcase, if_neg (mt hc.mp hcase)]
    exact hy hcase

theorem BothAnswer.andThen {x x' : Result} {f f' : State → Result} (hx : BothAnswer r a v x x')
    (hf : ∀ {u u'}, Alike r a v u u' → BothAnswer r a v (f u) (f' u')) : BothAnswer r a v (andThen x f) (andThen x' f') := by
  obtain ⟨u, u', rfl, rfl, hu⟩ | ⟨e, rfl, rfl⟩ := hx
  · exact hf hu
  · exact .refused e

theorem BothAnswer.forEach {α : Type} {f : α → State → Result}
    (hf : ∀ b {u u'}, Alike r a v u u' → BothAnswer r a v (f b u) (f b u')) (l : List α) (h : Alike r a v s s') :
    BothAnswer r a v (forEach f l s) (forEach f l s') := by
  induction l generalizing s s' with
  | nil => exact .next h
  | cons b l ih => exact (hf b h).andThen ih

theorem bothAnswer_tdDraw (h : Alike r a v s s') (sx : Int) (w : Nat) (px : Nat → Option Byte) :
    BothAnswer r a v (tdDraw sx w px s) (tdDraw sx w px s') := by
  unfold tdDraw
  rw [h.lb_eq]
  exact .ite Iff.rfl (fun _ => .next (h.setLb _)) (fun _ => .refused _)

/-! ## The units -/

theorem bothAnswer_lowColumn (h : Alike r a v s s') (row dx col ty k : Nat) :
    BothAnswer r a v (lowColumn row dx col ty k s) (lowColumn row dx col ty k s') := by
  unfold lowColumn
  rw [h.columnCode_eq, h.vread32_eq]
  exact .ite Iff.rfl (fun _ => .next h) fun _ =>
    .ite Iff.rfl (fun _ => bothAnswer_tdDraw h _ _ _) (fun _ => bothAnswer_tdDraw h _ _ _)

theorem bothAnswer_highColumn (h : Alike r a v s s') (row dx col ty k : Nat) :
    BothAnswer r a v (highColumn row dx col ty k s) (highColumn row dx col ty k s') := by
  unfold highColumn
  rw [h.columnCode_eq, h.vread32_eq]
  exact .ite Iff.rfl (fun _ => .next h) fun _ => .ite Iff.rfl (fun _ => .next h) fun _ =>
    .ite Iff.rfl (fun _ => bothAnswer_tdDraw h _ _ _) (fun _ => bothAnswer_tdDraw h _ _ _)

theorem bothAnswer_lowStrip (row dx n col ty : Nat) (h : Alike r a v s s') :
    BothAnswer r a v (lowStrip row dx n col ty s) (lowStrip row dx n col ty s') :=
  .ite Iff.rfl (fun _ => .forEach (fun k _ _ hu => bothAnswer_lowColumn hu row dx col ty k) _ h) (fun _ => .refused _)

theorem bothAnswer_highStrip (row dx n col ty : Nat) (h : Alike r a v s s') :
    BothAnswer r a v (highStrip row dx n col ty s) (highStrip row dx n col ty s') :=
  .ite Iff.rfl (fun _ => .forEach (fun k _ _ hu => bothAnswer_highColumn hu row dx col ty k) _ h) (fun _ => .refused _)

theorem bothAnswer_background2Strip (h : Alike r a v s s') (line : Nat) :
    BothAnswer r a v (background2Strip line s) (background2Strip line s') := by
  refine .forEach (fun k u u' hu => ?_) (List.range 32) h
  have hoffset : rowOffset2 u' line k = rowOffset2 u line k := by rw [rowOffset2, hu.vread8_eq, hu.nameBase2_eq, rowOffset2]
  have hpattern : rowPattern2 u' line k = rowPattern2 u line k := by
    rw [rowPattern2, hu.vread8_eq, hu.patternBase2_eq, hoffset, rowPattern2]
  have hcolours : rowColours2 u' line k = rowColours2 u line k := by
    rw [rowColours2, hu.vread8_eq, hu.colourBase2_eq, hoffset, rowColours2]
  rw [backgroundColumn2_eq, backgroundColumn2_eq, hpattern, hcolours]
  exact bothAnswer_tdDraw hu _ _ _

theorem bothAnswer_drawM4 (h : Alike r a v s s') : BothAnswer r a v (drawM4 s) (drawM4 s') := by
  rw [drawM4, drawM4, h.drawOrder_eq]
  refine .forEach (fun k u u' hu => ?_) _ h
  have hpixel : slotPixel4 u' k = slotPixel4 u k := funext fun x => by
    rw [slotPixel4, hu.vread32_eq, hu.slotAt_eq, hu.zoom_eq, slotPixel4]
  rw [drawSlot4_eq, drawSlot4_eq, hu.slotAt_eq, hu.halfWidth_eq, hpixel]
  exact bothAnswer_tdDraw hu _ _ _

theorem bothAnswer_drawHalf2 (h : Alike r a v s s') (x : Int) (pack pal : Byte) :
    BothAnswer r a v (drawHalf2 x pack pal s) (drawHalf2 x pack pal s') := by
  unfold drawHalf2
  rw [h.zoom_eq]
  exact .ite Iff.rfl
    (fun _ => .ite Iff.rfl (fun _ => bothAnswer_tdDraw h _ _ _) (fun _ => bothAnswer_tdDraw h _ _ _)) (fun _ => .next h)

theorem bothAnswer_drawSlot2 (k : Nat) (h : Alike r a v s s') : BothAnswer r a v (drawSlot2 k s) (drawSlot2 k s') := by
  unfold drawSlot2
  rw [h.slotAt_eq, h.vread8_eq, h.slotColour_eq]
  refine (bothAnswer_drawHalf2 h _ _ _).andThen fun {u u'} hu => ?_
  rw [hu.slotAt_eq, hu.vread8_eq, hu.slotColour_eq, hu.halfWidth_eq]
  exact .ite (by rw [hu.sprSize_eq]) (fun _ => bothAnswer_drawHalf2 hu _ _ _) (fun _ => .next hu)

theorem bothAnswer_drawM2 (h : Alike r a v s s') : BothAnswer r a v (drawM2 s) (drawM2 s') := by
  rw [drawM2, drawM2, h.drawOrder_eq]
  exact (BothAnswer.forEach (fun k _ _ hu => bothAnswer_drawSlot2 k hu) _ h).andThen fun hu => .next hu.useFreeColours

theorem bothAnswer_unlessKilled {f : State → Result} (hf : ∀ {u u'}, Alike r a v u u' → BothAnswer r a v (f u) (f u'))
    (h : Alike r a v s s') {killed killed' : Bool} (hkilled : killed' = killed) :
    BothAnswer r a v (unlessKilled killed f s) (unlessKilled killed' f s') := by
  rw [hkilled]
  exact .ite Iff.rfl (fun _ => .next h) (fun _ => hf h)

theorem bothAnswer_passStrips {pass : Nat → Nat → Nat → Nat → Nat → State → Result}
    (hpass : ∀ row dx n col ty {u u'}, Alike r a v u u' → BothAnswer r a v (pass row dx n col ty u) (pass row dx n col ty u'))
    (line : Nat) (h : Alike r a v s s') : BothAnswer r a v (passStrips pass line s) (passStrips pass line s') := by
  simp only [passStrips, h.scrollOf_eq, h.vlock_eq]
  exact .ite Iff.rfl (fun _ => (hpass _ _ _ _ _ h).andThen fun hu => hpass _ _ _ _ _ hu) (fun _ => hpass _ _ _ _ _ h)

theorem bothAnswer_lowPass (line : Nat) (h : Alike r a v s s') :
    BothAnswer r a v (passStrips lowStrip line s) (passStrips lowStrip line s') :=
  bothAnswer_passStrips (fun row dx n col ty _ _ hw => bothAnswer_lowStrip row dx n col ty hw) line h

theorem bothAnswer_highPass (line : Nat) (h : Alike r a v s s') :
    BothAnswer r a v (passStrips highStrip line s) (passStrips highStrip line s') :=
  bothAnswer_passStrips (fun row dx n col ty _ _ hw => bothAnswer_highStrip row dx n col ty hw) line h

theorem bothAnswer_displayM4 (line : Nat) (h : Alike r a v s s') :
    BothAnswer r a v (displayM4 line s) (displayM4 line s') := by
  refine (bothAnswer_unlessKilled (fun hw => bothAnswer_lowPass line hw) h h.killBits_eq.1).andThen fun {u u'} hu => ?_
  refine (bothAnswer_unlessKilled (f := fun w => drawM4 (scanM4 line w)) (fun hw => bothAnswer_drawM4 (hw.scanM4 line)) hu
    hu.killBits_eq.2.1).andThen fun {w w'} hw => ?_
  exact bothAnswer_unlessKilled (fun hw => bothAnswer_highPass line hw) hw hw.killBits_eq.2.2

theorem bothAnswer_displayM2 (line : Nat) (h : Alike r a v s s') :
    BothAnswer r a v (displayM2 line s) (displayM2 line s') := by
  refine (bothAnswer_unlessKilled (fun hw => bothAnswer_background2Strip hw line) h h.killBits_eq.1).andThen fun {u u'} hu => ?_
  exact bothAnswer_unlessKilled (f := fun w => drawM2 (scanM2 line w)) (fun hw => bothAnswer_drawM2 (hw.scanM2 line)) hu
    hu.killBits_eq.2.1

theorem bothAnswer_rebuild (h : Alike r a v s s') : BothAnswer r a v (rebuild s) (rebuild s') := by
  obtain ⟨-, hfmt, -⟩ := h.sequencing_eq
  cases hlayout : layout s.fmt with
  | none =>
    have hdirect := layout_eq_none_iff.mp hlayout
    have hs : rebuild s = .refused .rebuildWithoutDirectColour := rebuildNeedsDirectColour s hdirect
    have hs' : rebuild s' = .refused .rebuildWithoutDirectColour := rebuildNeedsDirectColour s' (by rw [hfmt]; exact hdirect)
    exact .inr ⟨_, hs, hs'⟩
  | some pixel =>
    have hs := rebuild_eq_next.mpr ⟨pixel, hlayout, rfl⟩
    have hs' := rebuild_eq_next.mpr ⟨pixel, hfmt ▸ hlayout, rfl⟩
    rw [h.rebuiltLut_eq] at hs'
    refine .inl ⟨_, _, hs, hs', ?_⟩
    obtain ⟨x, rfl, hstatus, hnamed⟩ := h
    exact ⟨x, rfl, hstatus, hnamed⟩

theorem bothAnswer_finalizeDirect (h : Alike r a v s s') : BothAnswer r a v (finalizeDirect s) (finalizeDirect s') := by
  obtain ⟨-, -, -, -, -, hdirty⟩ := h.sequencing_eq
  have hrebuild : BothAnswer r a v (rebuildIfDirty s) (rebuildIfDirty s') :=
    .ite (by rw [hdirty]) (fun _ => bothAnswer_rebuild h) (fun _ => .next h)
  refine hrebuild.andThen fun {u u'} hu => .next (hu.putRow ?_)
  obtain ⟨_, rfl, -⟩ := hu
  rfl

theorem bothAnswer_finalize (h : Alike r a v s s') : BothAnswer r a v (finalize s) (finalize s') := by
  obtain ⟨-, hfmt, -⟩ := h.sequencing_eq
  by_cases hnone : s.fmt = .notSelected
  · exact .inr ⟨_, finalize_of_notSelected hnone, finalize_of_notSelected (hfmt.trans hnone)⟩
  obtain h8 | hdirect | hint := format_cases hnone
  · have hrow : indexedRow s' = indexedRow s := by
      obtain ⟨_, rfl, -⟩ := h
      rfl
    exact .inl ⟨_, _, finalize_of_indexed8 h8, finalize_of_indexed8 (hfmt.trans h8), h.putRow hrow⟩
  · rw [finalize_of_isDirect hdirect, finalize_of_isDirect (by rw [hfmt]; exact hdirect)]
    exact bothAnswer_finalizeDirect h
  · exact .inl ⟨_, _, finalize_of_internal hint, finalize_of_internal (hfmt.trans hint), h⟩

theorem bothAnswer_drawnLine (line : Nat) (h : Alike r a v s s') :
    BothAnswer r a v (drawnLine line s) (drawnLine line s') := by
  have hstart := (h.scanBegin line).backfill
  have hdisplay : BothAnswer r a v (displayLine line (backfill (scanBegin line s)))
      (displayLine line (backfill (scanBegin line s'))) :=
    .ite (by rw [hstart.disp_eq])
      (fun _ => .ite (by rw [hstart.mode4_eq]) (fun _ => bothAnswer_displayM4 line hstart)
        (fun _ => bothAnswer_displayM2 line hstart))
      (fun _ => .next hstart)
  exact hdisplay.andThen fun hb => (bothAnswer_finalize hb.maskCol0).andThen fun hd => .next (hd.advanceRow_scanEnd line)

theorem bothAnswer_lineDraw (line : Nat) (h : Alike r a v s s') :
    BothAnswer r a v (lineDraw line s) (lineDraw line s') := by
  obtain ⟨-, hfmt, hlines, horder, hskip, -⟩ := h.sequencing_eq
  unfold lineDraw
  rw [hlines]
  exact .ite Iff.rfl (fun _ => .refused _) fun _ => .ite Iff.rfl (fun _ => .refused _) fun _ =>
    .ite (by rw [hfmt]) (fun _ => .refused _) fun _ => .ite (by rw [horder]) (fun _ => .refused _) fun _ =>
    .ite (by rw [hskip]) (fun _ => .next h.skippedLine) fun _ => bothAnswer_drawnLine line h

theorem bothAnswer_select (n : Nat) (h : Alike r a v s s') : BothAnswer r a v (select n s) (select n s') := by
  obtain ⟨hmid, -⟩ := h.sequencing_eq
  cases hf : formatOf n with
  | none =>
    have hreserved := formatOf_eq_none_iff.mp hf
    exact .inr ⟨_, select_of_reserved hreserved, select_of_reserved hreserved⟩
  | some f =>
    cases hcase : midFrame s with
    | true => exact .inr ⟨_, select_of_midFrame hf hcase, select_of_midFrame hf (hmid.trans hcase)⟩
    | false =>
      refine .inl ⟨_, _, select_of_not_midFrame hf hcase, select_of_not_midFrame hf (hmid.trans hcase), ?_⟩
      obtain ⟨x, rfl, hstatus, hnamed⟩ := h
      exact ⟨x, rfl, hstatus, hnamed⟩

/-! ## All 24 operations -/

/-- From alike states every operation answers alike. -/
theorem bothAnswer_exec (h : Alike r a v s s') (i : Instr) : BothAnswer r a v (exec i s) (exec i s') := by
  cases i with
  | tdM4Norm | tdM4Flip | tdM4NormBg | tdM4FlipBg | tdM4Dbl | tdM2Spr | tdM2Bg | tdM2SprDbl =>
    simp only [exec_tdM4Norm, exec_tdM4Flip, exec_tdM4NormBg, exec_tdM4FlipBg, exec_tdM4Dbl, exec_tdM2Spr, exec_tdM2Bg,
      exec_tdM2SprDbl]
    exact bothAnswer_tdDraw h _ _ _
  | ssM4Scan line => exact .ite Iff.rfl (fun _ => .next (h.scanM4 _)) (fun _ => .refused _)
  | ssM2Scan line => exact .ite Iff.rfl (fun _ => .next (h.scanM2 _)) (fun _ => .refused _)
  | ssM4Draw => exact bothAnswer_drawM4 h
  | ssM2Draw => exact bothAnswer_drawM2 h
  | scM4Low => exact bothAnswer_lowStrip _ _ _ _ _ h
  | scM4High => exact bothAnswer_highStrip _ _ _ _ _ h
  | scM2Bg => exact .ite Iff.rfl (fun _ => bothAnswer_background2Strip h _) (fun _ => .refused _)
  | lsFrameStart => exact .next h.frameStart
  | lsLineDraw => exact bothAnswer_lineDraw _ h
  | lsBackfill => exact .next h.backfill
  | lsM4Display => exact .ite Iff.rfl (fun _ => bothAnswer_displayM4 _ h) (fun _ => .refused _)
  | lsM2Display => exact .ite Iff.rfl (fun _ => bothAnswer_displayM2 _ h) (fun _ => .refused _)
  | lsMaskCol0 => exact .next h.maskCol0
  | pfSelect => exact bothAnswer_select _ h
  | pfRebuild => exact bothAnswer_rebuild h
  | pfFinalize => exact bothAnswer_finalize h

end

/-- Settles O16: the same registers and another `status`; what is ORed in is the same in both runs. -/
theorem statusIsNeverRead : Obligations.StatusIsNeverRead := by
  intro i s v
  have hstart : Alike s.reg s.status v s { s with status := v } := ⟨v, rfl, rfl, fun _ _ => rfl⟩
  obtain ⟨t, t', ht, ht', x, rfl, hstatus, -⟩ | ⟨e, he, he'⟩ := bothAnswer_exec hstart i
  · have hreg : t.reg = s.reg := (exec_effect ht).hostStateKept.1
    refine ⟨fun u hu => ?_, fun e he => (by rw [ht] at he; cases he)⟩
    rw [ht] at hu
    cases hu
    exact ⟨_, ht', by rw [← hreg], hstatus⟩
  · refine ⟨fun u hu => (by rw [he] at hu; cases hu), fun e' hu => ?_⟩
    rw [he] at hu
    cases hu
    exact he'

/-- Settles O17: other registers with the same named bits, and the same `status`, which stays the same in both runs. -/
theorem unnamedRegisterBitsAreNeverRead : Obligations.UnnamedRegisterBitsAreNeverRead := by
  intro i s r hnamed
  have hstart : Alike r 0#8 0#8 s { s with reg := r } :=
    ⟨s.status, rfl, (BitVec.or_zero).trans (BitVec.zero_or).symm, hnamed⟩
  obtain ⟨t, t', ht, ht', x, rfl, hstatus, -⟩ | ⟨e, he, he'⟩ := bothAnswer_exec hstart i
  · rw [BitVec.or_zero, BitVec.zero_or] at hstatus
    rw [ht, ht', hstatus]
    rfl
  · rw [he, he']
    rfl

end Sys2Proof.Machine
end
